-- ==== Sys2Proof/Word.lean ====
section
/-! DEFINITION. Words of the part: the bit vectors that the manual itself treats as bits, and nothing else. -/

namespace Sys2Proof

/-- One byte of the control port, of a note or of an image (00_scope.md, "Layouts"). -/
abbrev Byte := BitVec 8

/-- A frame number: a 32-bit count that wraps (R4). -/
abbrev FrameNo := BitVec 32

/-- An epoch: a 16-bit count that wraps (R129). -/
abbrev EpochNo := BitVec 16

/-- A CRC-16 remainder, the profile digest among them (R174). -/
abbrev Crc := BitVec 16

/-- A set of lanes, bit n for lane n (section 11.7, grants image). -/
abbrev LaneSet := BitVec 8

/-- A set of station indices or of slots, bit i for index i (section 11.7). -/
abbrev StationSet := BitVec 16

end Sys2Proof
end

