-- ==== Sys2Proof/Syntax.lean ====
section
/-! DEFINITION. The commands of the block: one constructor per row of spec/opcode_table.json, with the operands that the
row's rule gives it. A row is either a transaction of the control port (chapter 11) or an event at a pin or of one of the
part's own timers. What reaches the part on an input pin (the level of FRAME or HRDY, the symbols heard on NOTE, the
outcome on a readback) is an operand of the event that samples it. -/

namespace Sys2Proof

/-- How far a transaction had gone when CSN rose (R170). -/
inductive CutPoint where
  /-- CSN had fallen before RSTN rose: the transaction is none of the part's (R179). -/
  | acrossReset
  /-- Before the last bit of the command byte and its arguments was sampled: the command is not taken. -/
  | beforeTaken
  /-- After that, before or during the result byte: the command is taken, its result is lost. -/
  | inResult
  /-- During the data, after `shifted` whole data bytes had been shifted out. -/
  | inData (shifted : Nat)
  deriving DecidableEq, Repr

/-- What NOTE brought in a slot (R22): `fall` is the tick of the search span in which the start fall lay, counted from the
span's first tick; `symbols` are the two half-bit levels of each bit sampled from that fall on, true for high, up to the last
bit or to the point where the line or the slot time ended the reception. -/
structure Reception where
  fall : Fin 9
  symbols : List (Bool × Bool)
  deriving DecidableEq, Repr

/-- The commands and events of the PV-318. -/
inductive Instr where
  /-- SET PROFILE with the bytes of its argument (R172). -/
  | setProfile (image : List Byte)
  /-- PROFILE DONE (R173). -/
  | profileDone
  /-- WRITE PLAN with its index byte and the bytes of its image (R105). -/
  | writePlan (index : Byte) (image : List Byte)
  /-- READ PLAN (R110). -/
  | readPlan (index : Byte)
  /-- VERIFY (R113). -/
  | verify
  /-- The verify walk completes or stops at its first fault (R118). -/
  | verifyWalkConclusion
  /-- JOIN (R73). -/
  | join (start : Byte)
  /-- LEAVE with mode byte 0 (R85). -/
  | leaveFrameEnd
  /-- LEAVE with mode byte 1 (R86). -/
  | leaveSegmentEnd
  /-- LEAVE with mode byte 2 (R88). -/
  | leaveImmediate
  /-- RESTART (R94). -/
  | restart
  /-- CLEAR FAULT (R93). -/
  | clearFault
  /-- STAGE (R130). -/
  | stage (start : Byte)
  /-- UNSTAGE (R131). -/
  | unstage
  /-- READY with mode byte 0 (R132). -/
  | readySwitch
  /-- READY with mode byte 1 (R132). -/
  | readyKeep
  /-- UNREADY (R133). -/
  | unready
  /-- READ STATUS (R178). -/
  | readStatus
  /-- READ LOG (R166). -/
  | readLog
  /-- READ ROSTER (R52). -/
  | readRoster (index : Byte)
  /-- READ GRANTS (R69). -/
  | readGrants
  /-- A command byte with no assigned value, or LEAVE or READY with an unassigned mode; `argument` is the byte that
  follows the command byte on MOSI (R170, R181). -/
  | unassignedCommand (code argument : Byte)
  /-- CSN rises before the transaction has run its full course (R170), or in one that began before RSTN rose (R179). -/
  | transactionCutShort (cut : CutPoint)
  /-- Power-on reset (R179). -/
  | powerOnReset
  /-- A low level on RSTN (R179). -/
  | rstnLow
  /-- FRAME is sampled high where that completes a qualified rise, the frame mark (R2, R3). -/
  | frameMark
  /-- The tick after the mark, at which a participant pulls FRAME (R5). -/
  | participantPull
  /-- The minimum frame time has elapsed since the mark (R6). -/
  | minFrameTimeElapsed
  /-- The hold timer reaches the hold limit (R9). -/
  | holdLimitExpiry
  /-- The stall timer reaches the stall limit outside LISTENING (R13). -/
  | stallTimerExpiry
  /-- The listen timer reaches the stall limit in LISTENING (R15). -/
  | listenTimerExpiry
  /-- The pulse timer reaches one slot time (R15). -/
  | foundingPulseEnd
  /-- The end of a slot's search span in which no start fall was found; `lineLow` tells whether NOTE was low at the first
  sample of the span (R22). -/
  | searchSpanEnd (slot : Fin 16) (lineLow : Bool)
  /-- The reception of a slot ends (R22, R29). -/
  | noteCompletion (slot : Fin 16) (reception : Reception)
  /-- The transmission start of the own slot (R25). -/
  | ownTransmissionStart
  /-- The own note completes; `levels` are the levels of NOTE sampled in the two halves of each of its bits, true for high
  (R33). -/
  | ownNoteCompletion (levels : List (Bool × Bool))
  /-- The pending parting note is sent (R27). -/
  | partingNoteSend
  /-- The window end (R37). -/
  | windowEnd
  /-- The head code word has been sent (R144). -/
  | hcodeWordSent
  /-- The scheduled start of the next exposure, with the level of HRDY sampled there (R146). -/
  | exposureStart (hrdy : Bool)
  /-- The end tick of the exposure in progress (R146). -/
  | exposureEnd
  /-- HRDY is sampled high where the exposure release condition waits for it (R149). -/
  | exposuresEnded
  /-- The DELAY phase of a strobe generator ends (R151). -/
  | strobeDelayEnd (channel : Fin 4)
  /-- The ON phase of a strobe generator ends (R151). -/
  | strobeOnEnd (channel : Fin 4)
  /-- The OFF phase of a strobe generator ends (R151). -/
  | strobeOffEnd (channel : Fin 4)
  /-- No rising edge of TCLK has arrived for 5 microseconds (R177). -/
  | timebaseLoss
  /-- The first edges of TCLK after a loss, up to the first tick (R176, R177). -/
  | tclkReturn
  /-- The settle count reaches 2,000 ticks (R176). -/
  | settleCountComplete
  /-- The other stations leave FRAME at the given level from this sample on (R1, R2). -/
  | frameLevelChange (high : Bool)
  /-- RSTN rises after being low (R179). -/
  | rstnRelease
  deriving DecidableEq, Repr

end Sys2Proof
end

