-- ==== Sys2Proof/Decode.lean ====
section
/-! DEFINITION. The decoder asked of a block: the command that a word spells by the bits of spec/opcode_table.json. No row
of that table gives bits (each "fields" is empty and no row has "fixed"), so no word spells a command. The bytes of a
transaction, of a note and of every image are read and written in Machine/Operands.lean. -/

namespace Sys2Proof

/-- The command that a word spells by the table's bits: none, since the table gives none. -/
def decodeTableWord (_nbits _w : Nat) : Option Instr := none

end Sys2Proof
end

