-- ==== Sys2Proof/Config.lean ====
section
/-! DEFINITION. What one part fixes, and the one thing the manual leaves open that the model keeps open: the order of
events and records that fall on one tick. -/

namespace Sys2Proof.Config

/-- THE FREE CHOICE (log entry 1). Wherever the manual says that two things of one tick "may be taken first" or "may be
appended in any order" (R164), the model asks `freeChoice k` which of the two comes first, for a fresh `k` each time.
It has no body: nothing can be proved of its values. -/
opaque freeChoice : Nat → Bool

/-- The station log holds up to 64 records (R159). -/
def logCapacity : Nat := 64

/-- The gap count saturates at 65,535 (R159). -/
def gapLimit : Nat := 65535

/-- The divider after power-on reset and RSTN (R175). -/
def resetDivider : Nat := 40

/-- Ticks from the start of settling to LOCKED (R176). -/
def settleTicks : Nat := 2000

/-- Ticks in one millisecond (R9, R13). -/
def ticksPerMs : Nat := 1000

/-- A note's transmission starts 8 ticks into its slot (R25). -/
def transmitOffset : Nat := 8

/-- The search span of a slot begins 4 ticks into it (R22). -/
def searchSpanStart : Nat := 4

/-- The search span of a slot ends 12 ticks into it (R22). -/
def searchSpanEnd : Nat := 12

/-- The head code word occupies eleven ticks from the mark (R144). -/
def headWordTicks : Nat := 11

/-- The FIELDS pass of a verify walk spends 20 ticks on each entry (R114). -/
def ticksPerEntry : Nat := 20

/-- The quiet-window count at which a listener detaches (R75). -/
def quietLimit : Nat := 4

/-- The start pattern of a note (section 11.7). -/
def startPattern : Byte := 0x2D#8

/-- The largest value of a three-byte time field, 1,048,575 (section 6.2). -/
def maxTime : Nat := 1048575

end Sys2Proof.Config
end

