-- ==== Sys2Proof/Machine/Types.lean ====
section
/-! DEFINITION. The values that the part's state is made of: the manual's enumerations and records. -/

namespace Sys2Proof.Machine

/-! ## Station, barrier, timebase -/

/-- The station states (R71). -/
inductive StationState where
  | unconfigured | standby | listening | founding | joining | flushing | active | leaving | detached
  deriving DecidableEq, Repr

/-- Why a station is DETACHED (R71, R91). -/
inductive FaultCause where
  | duplicateIndex | profileMismatch | noNotes | epochSplit | timebaseLost
  deriving DecidableEq, Repr

/-- A leave that has been taken but has not yet made the station LEAVING (R71). -/
inductive PendingLeave where
  | frameEnd | segmentEnd
  deriving DecidableEq, Repr

/-- The barrier phases (section 1.2). -/
inductive Phase where
  | dormant | watching | pulsing | holding | draining | released
  deriving DecidableEq, Repr

/-- The lock state of the timebase (R176). -/
inductive LockState where
  | unlocked | settling | locked
  deriving DecidableEq, Repr

/-- The frame-record policy (R165). -/
inductive Policy where
  | all | exceptions
  deriving DecidableEq, Repr

/-- The profile's nine items (section 11.3). -/
structure Profile where
  width : Nat
  slotTime : Nat
  holdLimit : Nat
  stallLimit : Nat
  missLimit : Nat
  index : Fin 16
  divider : Nat
  policy : Policy
  attention : BitVec 24
  deriving DecidableEq, Repr

/-! ## Plans -/

/-- The event from which a strobe record's delay is counted (R99, R100). -/
inductive Reference where
  | mark | firstExpose | lastExposeEnd
  deriving DecidableEq, Repr

/-- How a record ends under LEAVE(IMMEDIATE) (R99). -/
inductive CutPolicy where
  | complete | truncate
  deriving DecidableEq, Repr

/-- A strobe record (R99). `lane` is none for PRIVATE. -/
structure StrobeRecord where
  channel : Fin 4
  lane : Option (Fin 8)
  priority : Fin 4
  reference : Reference
  delay : Nat
  onTime : Nat
  offTime : Nat
  pulses : Nat
  cutPolicy : CutPolicy
  deriving DecidableEq, Repr

/-- A plan's link with its end action and loop count, in the pairs that R102 allows. `repeats 0` repeats forever. -/
inductive Link where
  | next (entry : Fin 64)
  | repeats (loops : Nat)
  | park
  | depart
  deriving DecidableEq, Repr

/-- The content of one VALID plan table entry (R95 to R102). -/
structure Plan where
  exposureTime : Nat
  exposureOffset : Nat
  burstCount : Nat
  burstGap : Nat
  minFrameTime : Nat
  divisor : Nat
  phase : Nat
  repeatCount : Nat
  headMode : Fin 4
  headCode : Byte
  dark : Bool
  slots : Vector (Option StrobeRecord) 4
  link : Link
  deriving DecidableEq, Repr

/-- The plan table: an EMPTY entry is none (R95). -/
abbrev PlanTable := Vector (Option Plan) 64

/-- The failure codes of a verify walk (R115, R117). -/
inductive FailCode where
  | minFrame | phase | dupChannel | dupLane | busyTime | linkEmpty | cycle
  deriving DecidableEq, Repr

/-- The verify status with the items that are present with each of its values (R112). -/
inductive VerifyStatus where
  /-- NONE, with the interrupting entry when the interrupted marker is set. -/
  | idle (interruptedBy : Option (Fin 64))
  /-- RUNNING, with the tick at which the walk began. -/
  | running (since : Nat)
  | pass
  /-- FAIL, with the first failure. -/
  | fail (entry : Fin 64) (code : FailCode)
  deriving DecidableEq, Repr

/-- The result that a VERIFY_DONE record carries (R118, R119). -/
inductive VerifyResult where
  | pass
  | fail (entry : Fin 64) (code : FailCode)
  | interrupted (entry : Fin 64)
  deriving DecidableEq, Repr

/-! ## Cursor and epochs -/

/-- A frame content (R123). -/
inductive Content where
  | apply (entry : Fin 64)
  | settle (entry : Fin 64)
  | idle
  | parked
  | abstain
  | leave
  | flush (entry : Fin 64)
  deriving DecidableEq, Repr

/-- Passes of the segment still to run (R123). -/
inductive Loops where
  | forever
  | passes (n : Nat)
  deriving DecidableEq, Repr

/-- The ready mode (R129). -/
inductive ReadyMode where
  | switch | keep
  deriving DecidableEq, Repr

/-- The turn state, with the late marker of ADVANCE_DUE (R129). -/
inductive TurnState where
  | idle
  | advanceDue (late : Bool)
  | catchingUp
  deriving DecidableEq, Repr

/-! ## Notes -/

/-- The kinds of a note (section 2.4). -/
inductive NoteKind where
  | status | join | found | leave
  deriving DecidableEq, Repr

/-- The sender states a note can carry (section 2.4). -/
inductive SenderState where
  | joining | founding | flushing | active | leaving
  deriving DecidableEq, Repr

/-- A claim: a lane and a priority (section 2.4). -/
structure Claim where
  lane : Fin 8
  priority : Fin 4
  deriving DecidableEq, Repr

/-- The fields of a note (section 2.4). -/
structure Note where
  index : Fin 16
  kind : NoteKind
  sender : SenderState
  ready : Bool
  catchup : Bool
  frame : FrameNo
  epoch : EpochNo
  digest : Crc
  claims : List Claim
  deriving DecidableEq, Repr

/-- The outcome of one slot in the receipt list (R35). OWN_OK keeps the note as sent (R33, R58). -/
inductive SlotOutcome where
  | pending
  | silent
  | lineLow
  | garbage
  | foreign
  | valid (note : Note)
  | slip (note : Note)
  | ownOk (note : Note)
  | ownMismatch
  | notSent
  deriving DecidableEq, Repr

/-- A transmission in progress: the frozen note, the tick of its first bit, whether its readback is judged, and whether a
readback mismatch is recorded (R26, R27, R33). -/
structure Transmission where
  note : Note
  start : Nat
  judged : Bool
  mismatch : Bool := false
  deriving DecidableEq, Repr

/-! ## Roster -/

/-- The state of a member entry (R39). -/
inductive MemberState where
  | joining | founding | flushing | active | leaving | lost
  deriving DecidableEq, Repr

/-- Whether an entry is removed at the next mark, and how (R39). -/
inductive Removal where
  | none | left | lost
  deriving DecidableEq, Repr

/-- A member entry (R39). -/
structure Member where
  index : Fin 16
  state : MemberState
  epoch : EpochNo
  ready : Bool
  catchup : Bool
  lastHeard : Option FrameNo
  misses : Nat
  removal : Removal
  stamp : Option (FrameNo × EpochNo)
  expected : Bool
  deriving DecidableEq, Repr

/-! ## Lanes and strobes -/

/-- One lane of the grant table (section 4.2). The winner comes with its winning priority. -/
structure LaneEntry where
  claimants : StationSet
  winner : Option (Fin 16 × Fin 4)
  deriving DecidableEq, Repr

/-- The grant table with its table frame and view mark (section 4.2). -/
structure GrantTable where
  frame : FrameNo
  complete : Bool
  lanes : Vector LaneEntry 8
  deriving DecidableEq, Repr

/-- Why an arbitrated record is denied (R63). -/
inductive DenyReason where
  | turn | forfeit | lostArbitration
  deriving DecidableEq, Repr

/-- The lane resolver's decision for a record (R63, R150); `unarbitrated` is the decision PRIVATE. -/
inductive Decision where
  | granted
  | unarbitrated
  | denied (reason : DenyReason)
  deriving DecidableEq, Repr

/-- The phases of a strobe generator (R150). -/
inductive StrobePhase where
  | wait | delay | on | off | done | cut
  deriving DecidableEq, Repr

/-- What a record came to (R156). -/
inductive ChannelOutcome where
  | grantedRun
  | privateRun
  | denied (reason : DenyReason)
  | notRun
  | cut
  deriving DecidableEq, Repr

/-- One strobe generator (R150). The reset value is the default; the rule states none for the pulses remaining, and 0 is the
model's (log entry 21). -/
structure Generator where
  record : Option StrobeRecord := none
  decision : Option Decision := none
  phase : StrobePhase := .done
  pulsesLeft : Nat := 0
  phaseEnd : Option Nat := none
  outcome : Option ChannelOutcome := none
  deriving DecidableEq, Repr

/-- A head code word in transmission (R144). -/
structure HeadWord where
  mode : Fin 4
  code : Byte
  start : Nat
  deriving DecidableEq, Repr

/-! ## Log and port -/

/-- The frame outcomes (R157). -/
inductive FrameOutcome where
  | exposed | headBusy | flush | settle | idle | parked | abstain
  deriving DecidableEq, Repr

/-- The fields of a FRAME record (R161). -/
structure FrameReport where
  outcome : FrameOutcome
  planIndex : Option (Fin 64)
  exposures : Nat
  late : Bool
  truncated : Bool
  headBusy : Bool
  shortBurst : Bool
  turn : Bool
  channels : Vector (Option ChannelOutcome) 4
  granted : LaneSet
  denied : List (Fin 8 × DenyReason)
  deriving DecidableEq, Repr

/-- The stored record kinds with their own fields (R161, R162). -/
inductive RecordBody where
  | frame (report : FrameReport)
  | adopted
  | founded
  | yielded
  | joined
  | left
  | memberAdded (index : Fin 16)
  | stray (index : Fin 16)
  | memberLost (index : Fin 16)
  | memberLeft (index : Fin 16)
  | foreign (slots : StationSet)
  | slip (old new : FrameNo)
  | stall
  | resumed
  /-- The new segment's start, or none for KEEP. -/
  | epoch (segment : Option (Fin 64))
  | epochLate (segment : Option (Fin 64))
  | epochAdopted
  | fault (cause : FaultCause)
  | verifyDone (result : VerifyResult)
  | restart
  deriving DecidableEq, Repr

/-- A stored record (R160). -/
structure Record where
  body : RecordBody
  frame : FrameNo
  epoch : EpochNo
  deriving DecidableEq, Repr

/-- The result codes (R171). -/
inductive ResultCode where
  | accepted | state | busy | range | live | unverified | empty
  deriving DecidableEq, Repr

/-- What the READ LOG of the last transaction took from the log (R167). -/
inductive LogTaken where
  | nothing
  | record
  | gap (count : Nat)
  deriving DecidableEq, Repr

end Sys2Proof.Machine
end

