-- ==== Sys2Proof/Machine/State.lean ====
section
/-! DEFINITION. The state of the part, block by block, as plain data; the outcomes a step can have; the state after reset.
Every structure's default values are the reset values its chapter gives. Timers are held as the tick at which they were
started from zero; what a timer reads is the clock less that tick. -/

namespace Sys2Proof.Machine

/-- The frame barrier unit (chapter 1, R20). -/
structure Barrier where
  phase : Phase := .dormant
  /-- FRAME is pulled by this station (R1). -/
  pulled : Bool := false
  /-- A mark has been taken and the pull of the tick after it is still to come (R5). -/
  pullDue : Bool := false
  frameNo : FrameNo := 0
  /-- The frame number and epoch under which the current frame runs (R158; log entry 8). -/
  runFrame : FrameNo := 0
  runEpoch : EpochNo := 0
  markTick : Nat := 0
  holdStart : Option Nat := none
  stallStart : Option Nat := none
  pulseStart : Option Nat := none
  stallReported : Bool := false
  windowDone : Bool := false
  minTimeDone : Bool := false
  exposuresDone : Bool := false
  strobesDone : Bool := false
  /-- The tick at which the second release condition is met, while it waits (R6). -/
  minTimeDue : Option Nat := none
  /-- The LATE flag of the frame (R10). That it is clear at reset is the model's choice (log entry 21). -/
  late : Bool := false
  /-- The mark history over the ticks before the current one (R2). The run of consecutive low samples last seen: 0, 1, or
  2 for two or more. -/
  lows : Nat := 0
  /-- High samples since that run, as far as R2 looks back: 0 or 1. -/
  highs : Nat := 0
  /-- The sample of the current tick has been told (log entry 4). -/
  sampled : Bool := false
  /-- A mark has been taken at the current tick (R15). -/
  marked : Bool := false
  deriving DecidableEq, Repr

/-- The note transceiver (chapter 2, R38). -/
structure Transceiver where
  /-- The tick of the mark from which the window timer runs (R23). -/
  windowStart : Option Nat := none
  /-- The window is open for reception: opened by a mark and not yet closed or abandoned. -/
  windowOpen : Bool := false
  /-- The transmission start of the own slot has passed in this window (R25). -/
  ownPassed : Bool := false
  image : Option Note := none
  sending : Option Transmission := none
  parting : Option Note := none
  buffer : List Byte := []
  receipt : Vector SlotOutcome 16 := Vector.replicate 16 .pending
  foreignSet : StationSet := 0
  closedEarly : Bool := false
  deriving DecidableEq, Repr

/-- The rig roster (chapter 3, R54). `members` holds the other stations' entries, indices ascending. -/
structure Roster where
  members : List Member := []
  /-- The members required in the open window, as of its mark (R51). -/
  required : StationSet := 0
  /-- The members whose entries were ACTIVE or LEAVING at the mark of the open window (R140). -/
  settled : StationSet := 0
  /-- The judgement of the last window: complete or incomplete (R50). -/
  view : Option Bool := none
  deriving DecidableEq, Repr

/-- The lane resolver (chapter 4, R70). The view mark is part of the table; with no table it reads INCOMPLETE. -/
structure Resolver where
  table : Option GrantTable := none
  turnMark : Bool := false
  inUse : LaneSet := 0
  inUseFrame : Option FrameNo := none
  deriving DecidableEq, Repr

/-- The membership controller (R71). -/
structure Membership where
  state : StationState := .unconfigured
  fault : Option FaultCause := none
  pendingLeave : Option PendingLeave := none
  joinSegment : Option (Fin 64) := none
  adopted : Option FrameNo := none
  quiet : Nat := 0
  foreignHeard : Bool := false
  founder : Bool := false
  leavingFrame : Bool := false
  deriving DecidableEq, Repr

/-- The plan cursor (R123). -/
structure Cursor where
  segment : Option (Fin 64) := none
  entry : Option (Fin 64) := none
  repeatsLeft : Nat := 0
  loopsLeft : Loops := .forever
  headSent : Option (Fin 4) := none
  parked : Bool := false
  current : Option Content := none
  lookahead : Option Content := none
  /-- The current frame runs the last repetition of the segment's final plan (R86). -/
  lastRepetition : Bool := false
  deriving DecidableEq, Repr

/-- The epoch unit (R129). The ready flag is set exactly when `ready` names a mode. -/
structure EpochUnit where
  epoch : EpochNo := 0
  staged : Option (Fin 64) := none
  ready : Option ReadyMode := none
  announced : Bool := false
  deferred : Bool := false
  turn : TurnState := .idle
  /-- The station was a newcomer at the last window end (R139). -/
  newcomer : Bool := false
  deriving DecidableEq, Repr

/-- The exposure sequencer (R143, R145). R143 states no reset value for the exposures started and made and for the two skip
items; 0, none and clear are the model's (log entry 21). -/
structure Sequencer where
  /-- Start and end tick of each exposure of the frame. -/
  schedule : List (Nat × Nat) := []
  /-- How many of them have had their start judged. -/
  started : Nat := 0
  made : Nat := 0
  skipAt : Option Nat := none
  burstSkipped : Bool := false
  xtrig : Bool := false
  headWord : Option HeadWord := none
  deriving DecidableEq, Repr

/-- The station log (R159), oldest record first. -/
structure StationLog where
  queue : List Record := []
  gap : Nat := 0
  deriving DecidableEq, Repr

/-- The timebase (R175 to R177). -/
structure Timebase where
  divider : Nat := Config.resetDivider
  lock : LockState := .unlocked
  settle : Nat := 0
  /-- TCLK is lost: no tick is produced (R177). -/
  lost : Bool := false
  /-- Records of a detach that wait for the first tick after TCLK returns (R177). -/
  deferredRecords : List Record := []
  deriving DecidableEq, Repr

/-- The control port: the reply of the last transaction, and the command decoder (R169 to R171). -/
structure Port where
  result : Option ResultCode := none
  data : List Byte := []
  logTaken : LogTaken := .nothing
  /-- Commands handed over that wait for a tick, oldest first; true for one whose result is already lost (R169, R170). -/
  waiting : List (Instr × Bool) := []
  /-- CSN is low in a transaction of the part: MISO is driven (R169). -/
  selected : Bool := false
  /-- The result byte follows a single filler byte (R170). -/
  oneFiller : Bool := false
  deriving DecidableEq, Repr

/-- The state of one PV-318. -/
structure State where
  /-- Commands and events that are waiting, the next one first. -/
  pending : List Instr := []
  /-- Ticks of the timebase counted so far; the model's own clock (log entries 2 and 21). -/
  now : Nat := 0
  /-- Free choices taken so far (log entry 1). -/
  choices : Nat := 0
  /-- RSTN is held low (R179). -/
  rstnLow : Bool := false
  /-- The level at which the other stations leave FRAME, true for high, as last told (R1; log entry 4). -/
  frameIn : Bool := true
  store : List Byte := List.replicate 14 0
  profile : Option Profile := none
  digest : Crc := 0
  timebase : Timebase := {}
  port : Port := {}
  membership : Membership := {}
  barrier : Barrier := {}
  transceiver : Transceiver := {}
  roster : Roster := {}
  resolver : Resolver := {}
  table : PlanTable := Vector.replicate 64 none
  verifier : VerifyStatus := .idle none
  cursor : Cursor := {}
  epochs : EpochUnit := {}
  sequencer : Sequencer := {}
  generators : Vector Generator 4 := Vector.replicate 4 {}
  log : StationLog := {}
  deriving DecidableEq, Repr

/-- What stops the part: nothing does. Every row of the table has an effect or none, a refused command is a result byte
(R171), and the manual's faults are the station state DETACHED (R91). So no constructor stands here (log entry 22). -/
inductive Fault where
  deriving DecidableEq, Repr

/-- Refusals of the model. -/
inductive Refusal where
  /-- Raised by an arm of `exec` whose command has no meaning yet. Safe: the model stops where the part goes on. No arm
  raises it now. -/
  | notModelled (mnemonic : String)
  deriving DecidableEq, Repr

/-- The part right after power-on reset (R20, R38, R54, R70, R71, R95, R112, R123, R129, R143, R150, R159, R168, R179):
every block at its reset values, with an empty queue. -/
def State.reset : State :=
  { pending := [], now := 0, choices := 0, rstnLow := false, frameIn := true, store := List.replicate 14 0,
    profile := none, digest := 0, timebase := {}, port := {}, membership := {}, barrier := {}, transceiver := {}, roster := {}, resolver := {},
    table := Vector.replicate 64 none, verifier := .idle none, cursor := {}, epochs := {}, sequencer := {},
    generators := Vector.replicate 4 {}, log := {} }

end Sys2Proof.Machine
end

