-- ==== Sys2Proof/Machine/Ops.lean ====
section
/-! DEFINITION. The operations that the meanings share: the clock and the timers, the log, the reply of a transaction, and
short names for parts of the state. -/

namespace Sys2Proof.Machine

/-- What a command answers. -/
abbrev Result := Host.Outcome State Fault Refusal

/-! ## Short names -/

/-- The states of a participant: FLUSHING, ACTIVE and LEAVING (00_scope.md, section 5). -/
def StationState.participant : StationState → Bool
  | .flushing | .active | .leaving => true
  | .unconfigured | .standby | .listening | .founding | .joining | .detached => false

/-- The rig states: LISTENING to LEAVING (00_scope.md, section 5). -/
def StationState.inRig : StationState → Bool
  | .listening | .founding | .joining | .flushing | .active | .leaving => true
  | .unconfigured | .standby | .detached => false

/-- A profile whose every item is zero: what the accessors read while none is in force, where no block acts (R172). -/
def Profile.zero : Profile :=
  { width := 0, slotTime := 0, holdLimit := 0, stallLimit := 0, missLimit := 0, index := 0, divider := Config.resetDivider,
    policy := .all, attention := 0 }

/-- The profile in force. -/
def State.prof (s : State) : Profile := s.profile.getD Profile.zero

/-- The hold limit in ticks (R9). -/
def State.holdTicks (s : State) : Nat := s.prof.holdLimit * Config.ticksPerMs

/-- The stall limit in ticks (R13). -/
def State.stallTicks (s : State) : Nat := s.prof.stallLimit * Config.ticksPerMs

/-- The plan of an entry, none where it is EMPTY. -/
def State.plan? (s : State) (entry : Fin 64) : Option Plan := s.table.get entry

/-- The receipt list's entry for a slot (R35). -/
def State.outcomeOf (s : State) (slot : Fin 16) : SlotOutcome := s.transceiver.receipt.get slot

/-- Sets the receipt list's entry for a slot. -/
def Transceiver.setOutcome (t : Transceiver) (slot : Fin 16) (o : SlotOutcome) : Transceiver :=
  { t with receipt := t.receipt.set slot.val o slot.isLt }

/-- A slot of the window: below the rig width (R23). -/
def State.hasSlot (s : State) (slot : Fin 16) : Bool := decide (slot.val < s.prof.width)

/-- The tick at which a slot begins (R23). -/
def State.slotStart (s : State) (slot : Fin 16) : Nat :=
  s.transceiver.windowStart.getD s.now + slot.val * s.prof.slotTime

/-- The slot position the transceiver has reached: whole slot times since the mark (R23, R38). -/
def State.slotPosition (s : State) : Nat :=
  match s.transceiver.windowStart with
  | some t => (s.now - t) / s.prof.slotTime
  | none => 0

/-- The tick at which the window ends: mark + W × slot time (R6, R23). -/
def State.windowEndTick (s : State) : Nat :=
  s.transceiver.windowStart.getD s.now + s.prof.width * s.prof.slotTime

/-- The tick of the own transmission start (R25). -/
def State.ownStartTick (s : State) : Nat := s.slotStart s.prof.index + Config.transmitOffset

/-- The frame in progress still waits for its release: the unit is HOLDING, or is to pull at the next tick (R5, R8). -/
def State.frameOpen (s : State) : Bool := s.barrier.phase == .holding || s.barrier.pullDue

/-- The station has a current frame number (R32). -/
def State.hasNumber (s : State) : Bool :=
  match s.membership.state with
  | .listening => s.membership.adopted.isSome
  | .joining | .flushing | .active | .leaving => true
  | .unconfigured | .standby | .founding | .detached => false

/-! ## The clock -/

/-- Ticks are being produced: TCLK gives edges and the part is not held in reset (R169, R177, R179). -/
def State.ticking (s : State) : Bool := !s.rstnLow && !s.timebase.lost

/-- The level of FRAME at the pin: low while the station pulls, otherwise as the other stations leave it (R1). -/
def Barrier.level (frameIn : Bool) (b : Barrier) : Bool := !b.pulled && frameIn

/-- The mark history after `n` consecutive low samples (R2). -/
def Barrier.sampleLow (n : Nat) (b : Barrier) : Barrier :=
  if n = 0 then b
  else if b.highs = 0 then { b with lows := min 2 (b.lows + n) }
  else { b with lows := min 2 n, highs := 0 }

/-- The mark history after `n` consecutive high samples at which no mark is taken (R2). -/
def Barrier.sampleHigh (n : Nat) (b : Barrier) : Barrier :=
  if n = 0 then b
  else if n = 1 ∧ b.lows = 2 ∧ b.highs = 0 then { b with highs := 1 }
  else { b with lows := 0, highs := 0 }

/-- `k` ticks pass for the barrier unit: one sample of FRAME goes into the history for each tick left behind, the level
staying as it is (R1, R2; log entry 4). -/
def Barrier.elapse (frameIn : Bool) (k : Nat) (b : Barrier) : Barrier :=
  if k = 0 then b
  else { (if b.level frameIn then b.sampleHigh k else b.sampleLow k) with sampled := false, marked := false }

/-- `k` ticks pass. The settle count follows the ticks (R176). -/
def State.elapse (k : Nat) (s : State) : State :=
  { s with
    now := s.now + k
    timebase :=
      if s.timebase.lock = .settling then
        { s.timebase with settle := min Config.settleTicks (s.timebase.settle + k) }
      else s.timebase
    barrier := s.barrier.elapse s.frameIn k }

/-- Time passes up to tick `t`, if it has not come yet (log entry 2). -/
def State.advanceTo (t : Nat) (s : State) : State := s.elapse (t - s.now)

/-- An event of a tick: it cannot come about while no tick is produced. -/
def State.onTick (effect : State → State) (s : State) : State := if s.ticking then effect s else s

/-! ## The log -/

/-- Appends one record (R163): a full log first gives up its oldest record and counts it. -/
def StationLog.append (l : StationLog) (r : Record) : StationLog :=
  if l.queue.length < Config.logCapacity then { l with queue := l.queue ++ [r] }
  else { queue := l.queue.tail ++ [r], gap := min Config.gapLimit (l.gap + 1) }

/-- Adds to the gap count, which saturates (R167). -/
def StationLog.addGap (l : StationLog) (n : Nat) : StationLog := { l with gap := min Config.gapLimit (l.gap + n) }

/-- Merges two sequences, each kept in its own order, by free choices from number `k` on (log entry 1). `fuel` is the
number of items. -/
def mergeTwo {α : Type} : Nat → Nat → List α → List α → List α
  | 0, _, xs, ys => xs ++ ys
  | _ + 1, _, [], ys => ys
  | _ + 1, _, xs, [] => xs
  | fuel + 1, k, x :: xs, y :: ys =>
    if Config.freeChoice k then x :: mergeTwo fuel (k + 1) xs (y :: ys) else y :: mergeTwo fuel (k + 1) (x :: xs) ys

/-- Merges several sequences, each kept in its own order (R164). -/
def mergeAll {α : Type} (k : Nat) : List (List α) → List α
  | [] => []
  | c :: cs => mergeTwo (c.length + cs.flatten.length) k c (mergeAll (k + c.length + cs.flatten.length) cs)

/-- How many free choices `mergeAll` may take. -/
def mergeChoices {α : Type} (cs : List (List α)) : Nat := cs.flatten.length * cs.length

/-- Appends the records of one tick. Each inner list is in the order the rules fix; between the lists the order is free
(R164). -/
def State.logChains (chains : List (List Record)) (s : State) : State :=
  { s with
    log := (mergeAll s.choices chains).foldl StationLog.append s.log
    choices := s.choices + mergeChoices chains }

/-- A record with the frame number and epoch the station holds (R160). -/
def State.record (s : State) (body : RecordBody) : Record :=
  { body, frame := s.barrier.frameNo, epoch := s.epochs.epoch }

/-! ## Transactions -/

/-- The reply of a transaction: its result byte and data, MISO driven (R169). -/
def State.replyWith (code : ResultCode) (data : List Byte) (s : State) : State :=
  { s with
    port := { s.port with result := some code, data, logTaken := .nothing, selected := true, oneFiller := false } }

/-- A reply without data (R171). -/
def State.reply (code : ResultCode) (s : State) : State := s.replyWith code []

/-- The commands that wait, their results lost: CSN has risen in their transactions (R170). -/
def Port.cutWaiting (p : Port) : List (Instr × Bool) := p.waiting.map fun w => (w.1, true)

/-- CSN rises: MISO is high-impedance, and the results of commands that still wait are lost (R169, R170). -/
def Port.rise (p : Port) : Port := { p with waiting := p.cutWaiting, selected := false, oneFiller := false }

/-- CSN rises before a byte of the reply is out: the transaction delivers nothing (R108, R170). -/
def State.noReply (s : State) : State :=
  { s with port := { s.port.rise with result := none, data := [], logTaken := .nothing } }

/-- The port while the command of its transaction waits for a tick: it shifts out filler (R169). -/
def Port.await (c : Instr) (p : Port) : Port :=
  { p with
    result := none, data := [], logTaken := .nothing, waiting := p.cutWaiting ++ [(c, false)], selected := true
    oneFiller := false }

/-- A transaction that ends before its last argument bit: its command is not taken (R108, R170). Held in reset the part has
no transaction (R179). -/
def State.endEarly (s : State) : State := if s.rstnLow then s else s.noReply

/-- The decoder hands a command over at a tick (R169). Held in reset the part takes none (R179); while no tick comes the
command waits (R177). -/
def State.handOver (c : Instr) (action : State → State) (s : State) : State :=
  if s.rstnLow then s
  else if s.timebase.lost then { s with port := s.port.await c }
  else action s

/-- A command with an image of `size` bytes is handed over once the image is whole (R108, R170). -/
def State.handOverImage (size : Nat) (image : List Byte) (c : Instr) (action : State → State) (s : State) : State :=
  if image.length < size then s.endEarly else s.handOver c action

end Sys2Proof.Machine
end

