-- ==== Sys2Proof/Machine/Operands.lean ====
section
/-! DEFINITION. The operand forms: every byte layout of section 11.7 in both directions, the CRC-16, and the symbols of a
note on the line. -/

namespace Sys2Proof.Machine

/-! ## Bytes -/

/-- Byte `i` of an image. -/
def byteAt (l : List Byte) (i : Nat) : Nat := (l.getD i 0).toNat

/-- A two-byte field, most significant byte first (11.7). -/
def pairAt (l : List Byte) (i : Nat) : Nat := byteAt l i * 256 + byteAt l (i + 1)

/-- A three-byte field. -/
def tripleAt (l : List Byte) (i : Nat) : Nat := byteAt l i * 65536 + pairAt l (i + 1)

/-- A four-byte field. -/
def quadAt (l : List Byte) (i : Nat) : Nat := pairAt l i * 65536 + pairAt l (i + 2)

/-- One byte from a number below 256. -/
def byte (n : Nat) : Byte := BitVec.ofNat 8 n

/-- Two bytes, most significant first. -/
def bytes2 (n : Nat) : List Byte := [byte (n / 256), byte n]

/-- Three bytes, most significant first. -/
def bytes3 (n : Nat) : List Byte := byte (n / 65536) :: bytes2 n

/-- Four bytes, most significant first. -/
def bytes4 (n : Nat) : List Byte := byte (n / 16777216) :: bytes3 n

/-- A flag at bit `i` of a byte. -/
def flagBit (i : Nat) (b : Bool) : Nat := if b then 2 ^ i else 0

/-- Bit `i` of byte `n` of an image. -/
def bitAt (l : List Byte) (n i : Nat) : Bool := (l.getD n 0).getLsbD i

/-! ## CRC-16 (R174) -/

/-- The bits of a byte, most significant first. -/
def bitsOfByte (b : Byte) : List Bool :=
  [b.getLsbD 7, b.getLsbD 6, b.getLsbD 5, b.getLsbD 4, b.getLsbD 3, b.getLsbD 2, b.getLsbD 1, b.getLsbD 0]

/-- One bit through the register with polynomial x^16 + x^12 + x^5 + 1. -/
def crcBit (c : Crc) (b : Bool) : Crc := if c.msb != b then (c <<< 1) ^^^ 0x1021#16 else c <<< 1

/-- The CRC-16 of a string of bytes: seed FFFFh, no reflection, no final inversion (R174). -/
def crc16 (bytes : List Byte) : Crc := (bytes.flatMap bitsOfByte).foldl crcBit 0xFFFF#16

/-! ## The profile image (R172, R173) -/

/-- The profile that an image gives, when it passes every check of R173. -/
def Profile.decode (img : List Byte) : Option Profile :=
  let width := byteAt img 0
  let slotTime := pairAt img 1
  let holdLimit := pairAt img 3
  let stallLimit := pairAt img 5
  let missLimit := byteAt img 7
  let index := byteAt img 8
  let divider := byteAt img 9
  let policy := byteAt img 10
  if 1 ≤ width ∧ width ≤ 16 ∧ 160 ≤ slotTime ∧ slotTime ≤ 1000 ∧ 5 ≤ holdLimit ∧ holdLimit ≤ 2000
      ∧ holdLimit < stallLimit ∧ stallLimit ≤ 4000 ∧ 1 ≤ missLimit ∧ missLimit ≤ 7 ∧ index < width
      ∧ 4 ≤ divider ∧ divider ≤ 40 ∧ policy ≤ 1 ∧ width * slotTime < holdLimit * Config.ticksPerMs then
    some
      { width, slotTime, holdLimit, stallLimit, missLimit, index := Fin.ofNat 16 index, divider
        policy := if policy = 0 then .all else .exceptions
        attention := BitVec.ofNat 24 (tripleAt img 11) }
  else none

/-- The digest of an image: the CRC of its bytes 0 to 7 (R174). -/
def profileDigest (img : List Byte) : Crc := crc16 (img.take 8)

/-! ## The plan entry image (R105, R181) -/

/-- A numeric field within a range. -/
def inRange (lo hi n : Nat) : Bool := decide (lo ≤ n ∧ n ≤ hi)

/-- The reference of a strobe slot; 3 is not assigned (R181). -/
def Reference.decode : Nat → Option Reference
  | 0 => some .mark
  | 1 => some .firstExpose
  | 2 => some .lastExposeEnd
  | _ => none

/-- The lane of a strobe slot: 00h to 07h, or 0Fh for PRIVATE (R181). -/
def decodeLane (n : Nat) : Option (Option (Fin 8)) :=
  if n < 8 then some (some (Fin.ofNat 8 n)) else if n = 0x0F then some none else none

/-- A present strobe slot whose twelve bytes begin at `at0`; none when it is malformed. -/
def StrobeRecord.decode (img : List Byte) (at0 : Nat) : Option StrobeRecord := do
  let head := byteAt img at0
  let reference ← Reference.decode (head / 16 % 4)
  let lane ← decodeLane (byteAt img (at0 + 1))
  let delay := tripleAt img (at0 + 2)
  let onTime := pairAt img (at0 + 5)
  let offTime := pairAt img (at0 + 7)
  let pulses := byteAt img (at0 + 9)
  if inRange 0 Config.maxTime delay && inRange 1 65535 onTime && inRange 1 65535 offTime && inRange 1 16 pulses then
    some
      { channel := Fin.ofNat 4 (head / 64), lane, priority := Fin.ofNat 4 (head / 4), reference, delay, onTime, offTime, pulses
        cutPolicy := if bitAt img at0 1 then .truncate else .complete }
  else none

/-- The link, end action and loop count in the pairs that R102 allows; none for any other. -/
def Link.decode (link action loops : Nat) : Option Link :=
  if link < 64 then (if action = 0 ∧ loops = 0 then some (.next (Fin.ofNat 64 link)) else none)
  else if link = 0xFF then
    match action with
    | 1 => some (.repeats loops)
    | 2 => if loops = 0 then some .park else none
    | 3 => if loops = 0 then some .depart else none
    | _ => none
  else none

/-- Strobe slot `i` of an image: none when malformed, otherwise the record or none for an absent slot (R99). -/
def decodeSlot (img : List Byte) (i : Nat) : Option (Option StrobeRecord) :=
  if bitAt img 18 i then (StrobeRecord.decode img (24 + 12 * i)).map some else some none

/-- The plan of a VALID image, none when the image is malformed (R105, R181). Bits that 11.7 gives no field are not kept (log
entry 35). -/
def Plan.decode (img : List Byte) : Option Plan := do
  let slot0 ← decodeSlot img 0
  let slot1 ← decodeSlot img 1
  let slot2 ← decodeSlot img 2
  let slot3 ← decodeSlot img 3
  let link ← Link.decode (byteAt img 19) (byteAt img 20) (byteAt img 21)
  if inRange 1 Config.maxTime (tripleAt img 1) && inRange 0 Config.maxTime (tripleAt img 4) && inRange 1 4 (byteAt img 7)
      && inRange 1 65535 (pairAt img 8) && inRange 0 Config.maxTime (tripleAt img 10) && inRange 1 16 (byteAt img 13)
      && inRange 0 15 (byteAt img 14) && inRange 1 255 (byteAt img 15) then
    some
      { exposureTime := tripleAt img 1, exposureOffset := tripleAt img 4, burstCount := byteAt img 7
        burstGap := pairAt img 8, minFrameTime := tripleAt img 10, divisor := byteAt img 13, phase := byteAt img 14
        repeatCount := byteAt img 15, headMode := Fin.ofNat 4 (byteAt img 16 / 64), headCode := img.getD 17 0
        dark := bitAt img 16 0, slots := #v[slot0, slot1, slot2, slot3], link }
  else none

/-- What a written image makes of its entry: none when it is malformed, EMPTY or a plan otherwise (R105). -/
def decodeEntry (img : List Byte) : Option (Option Plan) :=
  if byteAt img 0 = 0 then some none
  else if byteAt img 0 = 1 then (Plan.decode img).map some
  else none

/-- The code of a reference (11.7). -/
def Reference.code : Reference → Nat
  | .mark => 0
  | .firstExpose => 1
  | .lastExposeEnd => 2

/-- The code of a cut policy (11.7). -/
def CutPolicy.code : CutPolicy → Nat
  | .complete => 0
  | .truncate => 1

/-- The twelve bytes of a strobe slot; an absent one is zeros (R99). Bits without a field are 0 (log entry 35). -/
def encodeSlot : Option StrobeRecord → List Byte
  | none => List.replicate 12 0
  | some r =>
    [byte (r.channel.val * 64 + r.reference.code * 16 + r.priority.val * 4 + r.cutPolicy.code * 2),
      byte (match r.lane with | some l => l.val | none => 0x0F)]
      ++ bytes3 r.delay ++ bytes2 r.onTime ++ bytes2 r.offTime ++ [byte r.pulses, 0, 0]

/-- The three bytes of a link (11.7). -/
def Link.encode : Link → List Byte
  | .next e => [byte e.val, 0, 0]
  | .repeats n => [0xFF#8, 1, byte n]
  | .park => [0xFF#8, 2, 0]
  | .depart => [0xFF#8, 3, 0]

/-- The presence mask of a plan (R99). -/
def Plan.mask (p : Plan) : Nat :=
  flagBit 0 (p.slots.get 0).isSome + flagBit 1 (p.slots.get 1).isSome + flagBit 2 (p.slots.get 2).isSome
    + flagBit 3 (p.slots.get 3).isSome

/-- The 72 bytes of a VALID entry's image, every field as it was written (R110); bits that 11.7 gives no field are 0 (log
entry 35). -/
def Plan.encode (p : Plan) : List Byte :=
  [0x01#8] ++ bytes3 p.exposureTime ++ bytes3 p.exposureOffset ++ [byte p.burstCount] ++ bytes2 p.burstGap
    ++ bytes3 p.minFrameTime ++ [byte p.divisor, byte p.phase, byte p.repeatCount,
      byte (p.headMode.val * 64 + flagBit 0 p.dark), p.headCode, byte p.mask]
    ++ p.link.encode ++ [0, 0] ++ encodeSlot (p.slots.get 0) ++ encodeSlot (p.slots.get 1) ++ encodeSlot (p.slots.get 2)
    ++ encodeSlot (p.slots.get 3)

/-! ## Notes (section 2.4, 11.7) -/

/-- The code of a note's kind. -/
def NoteKind.code : NoteKind → Nat
  | .status => 0
  | .join => 1
  | .found => 2
  | .leave => 3

/-- The kind of a code; all four codes of the two bits are assigned. -/
def NoteKind.decode : Fin 4 → NoteKind
  | 0 => .status
  | 1 => .join
  | 2 => .found
  | 3 => .leave

/-- The code of a sender state. -/
def SenderState.code : SenderState → Nat
  | .joining => 0
  | .founding => 1
  | .flushing => 2
  | .active => 3
  | .leaving => 4

/-- The sender state of a code; 5, 6 and 7 are not assigned (R180). -/
def SenderState.decode : Nat → Option SenderState
  | 0 => some .joining
  | 1 => some .founding
  | 2 => some .flushing
  | 3 => some .active
  | 4 => some .leaving
  | _ => none

/-- Each kind goes with a fixed sender state (section 2.4). -/
def NoteKind.fits : NoteKind → SenderState → Bool
  | .status, .flushing | .status, .active | .join, .joining | .found, .founding | .leave, .leaving => true
  | .status, _ | .join, _ | .found, _ | .leave, _ => false

/-- The bytes of a note ahead of its CRC. -/
def Note.body (n : Note) : List Byte :=
  [Config.startPattern, byte (n.index.val * 16 + n.kind.code * 4),
    byte (n.sender.code * 32 + flagBit 1 n.ready + flagBit 0 n.catchup)]
    ++ bytes4 n.frame.toNat ++ bytes2 n.epoch.toNat ++ bytes2 n.digest.toNat ++ [byte n.claims.length]
    ++ n.claims.map (fun c => byte (c.lane.val * 4 + c.priority.val))

/-- The bytes of a note as sent (R26): 14 + n of them for n claims. -/
def Note.encode (n : Note) : List Byte := n.body ++ bytes2 (crc16 n.body).toNat

/-- The two half-bit levels of a bit on the line, true for high (R21): 0 is low then high, 1 is high then low. -/
def symbolOfBit (b : Bool) : Bool × Bool := (b, !b)

/-- The symbols of a string of bytes, most significant bit first (R21). -/
def symbolsOf (bytes : List Byte) : List (Bool × Bool) := (bytes.flatMap bitsOfByte).map symbolOfBit

/-- The bits decoded before the first pair of equal halves (R22). -/
def bitsOfSymbols : List (Bool × Bool) → List Bool
  | (true, false) :: rest => true :: bitsOfSymbols rest
  | (false, true) :: rest => false :: bitsOfSymbols rest
  | (true, true) :: _ | (false, false) :: _ | [] => []

/-- A byte from its eight bits, most significant first. -/
def byteOfBits (bits : List Bool) : Byte := byte (bits.foldl (fun n b => 2 * n + b.toNat) 0)

/-- The whole bytes of a string of bits; a last part of a byte is dropped. -/
def bytesOfBits : List Bool → List Byte
  | a :: b :: c :: d :: e :: f :: g :: h :: rest => byteOfBits [a, b, c, d, e, f, g, h] :: bytesOfBits rest
  | _ => []

/-- What a completed or ended reception came to (R30). -/
inductive Heard where
  | garbage
  | foreign
  | valid (note : Note)
  deriving DecidableEq, Repr

/-- The note that a string of bytes spells, when its sender state is assigned; its other checks are R30's. -/
def Note.decode (bytes : List Byte) : Option Note :=
  (SenderState.decode (byteAt bytes 2 / 32)).map fun sender =>
    { index := Fin.ofNat 16 (byteAt bytes 1 / 16)
      kind := NoteKind.decode (Fin.ofNat 4 (byteAt bytes 1 / 4))
      sender
      ready := bitAt bytes 2 1
      catchup := bitAt bytes 2 0
      frame := BitVec.ofNat 32 (quadAt bytes 3)
      epoch := BitVec.ofNat 16 (pairAt bytes 7)
      digest := BitVec.ofNat 16 (pairAt bytes 9)
      claims := ((bytes.drop 12).take (byteAt bytes 11)).map fun c =>
        { lane := Fin.ofNat 8 (c.toNat / 4), priority := Fin.ofNat 4 c.toNat } }

/-- The lanes that a note's claims name are distinct (R30). -/
def Note.lanesDistinct (n : Note) : Bool := decide (n.claims.map (·.lane)).Nodup

/-- Classifies the bytes heard in a slot by the first check of R30 that fails. A reception that ended before the note's
last byte, or whose claim count exceeds 4, is GARBAGE (R22, R29). -/
def classify (own : Crc) (slot : Fin 16) (bytes : List Byte) : Heard :=
  let count := byteAt bytes 11
  if bytes.length < 12 ∨ 4 < count ∨ bytes.length < 14 + count then .garbage
  else if bytes.getD 0 0 ≠ Config.startPattern then .garbage
  else if crc16 (bytes.take (12 + count)) ≠ BitVec.ofNat 16 (pairAt bytes (12 + count)) then .garbage
  else if BitVec.ofNat 16 (pairAt bytes 9) ≠ own then .foreign
  else
    match Note.decode bytes with
    | none => .garbage
    | some n => if n.kind.fits n.sender && n.lanesDistinct && decide (n.index = slot) then .valid n else .garbage

/-! ## Log records (11.7) -/

/-- The kind code of a record. -/
def RecordBody.code : RecordBody → Nat
  | .frame _ => 0x01
  | .adopted => 0x02
  | .founded => 0x03
  | .yielded => 0x04
  | .joined => 0x05
  | .left => 0x06
  | .memberAdded _ => 0x07
  | .stray _ => 0x08
  | .memberLost _ => 0x09
  | .memberLeft _ => 0x0A
  | .foreign _ => 0x0B
  | .slip _ _ => 0x0C
  | .stall => 0x0D
  | .resumed => 0x0E
  | .epoch _ => 0x0F
  | .epochLate _ => 0x10
  | .epochAdopted => 0x11
  | .fault _ => 0x12
  | .verifyDone _ => 0x13
  | .restart => 0x14

/-- The code of a frame outcome. -/
def FrameOutcome.code : FrameOutcome → Nat
  | .exposed => 0
  | .headBusy => 1
  | .flush => 2
  | .settle => 3
  | .idle => 4
  | .parked => 5
  | .abstain => 6

/-- The code of a deny reason. -/
def DenyReason.code : DenyReason → Nat
  | .turn => 1
  | .forfeit => 2
  | .lostArbitration => 3

/-- The code of a channel outcome, 0 for none. -/
def channelCode : Option ChannelOutcome → Nat
  | none => 0
  | some .grantedRun => 1
  | some .privateRun => 2
  | some (.denied r) => 2 + r.code
  | some .notRun => 6
  | some .cut => 7

/-- The code of a fault cause. -/
def FaultCause.code : FaultCause → Nat
  | .duplicateIndex => 1
  | .profileMismatch => 2
  | .noNotes => 3
  | .epochSplit => 4
  | .timebaseLost => 5

/-- The failure code of a walk. -/
def FailCode.code : FailCode → Nat
  | .minFrame => 1
  | .phase => 2
  | .dupChannel => 3
  | .dupLane => 4
  | .busyTime => 5
  | .linkEmpty => 6
  | .cycle => 7

/-- An entry index behind a presence bit. With none both read zero, which the manual does not say of the index (log
entry 31). -/
def presentEntry : Option (Fin 64) → Nat
  | some e => 128 + e.val
  | none => 0

/-- Fills a list of bytes up to `n` with zeros. -/
def padTo (n : Nat) (l : List Byte) : List Byte := (l ++ List.replicate n 0).take n

/-- Bytes 7 to 15 of a FRAME record. -/
def FrameReport.encode (r : FrameReport) : List Byte :=
  [byte (r.outcome.code * 32 + flagBit 4 r.late + flagBit 3 r.truncated + flagBit 2 r.headBusy + flagBit 1 r.shortBurst
      + flagBit 0 r.turn),
    byte (presentEntry r.planIndex)]
    ++ bytes2 (r.exposures * 4096 + channelCode (r.channels.get 0) * 512 + channelCode (r.channels.get 1) * 64
      + channelCode (r.channels.get 2) * 8 + channelCode (r.channels.get 3))
    ++ [byte r.granted.toNat] ++ padTo 4 (r.denied.map fun d => byte (128 + d.1.val * 16 + d.2.code))

/-- The kind-specific bytes of a record, from byte 7. -/
def RecordBody.fields : RecordBody → List Byte
  | .frame r => r.encode
  | .memberAdded i | .stray i | .memberLost i | .memberLeft i => [byte i.val]
  | .foreign set => bytes2 set.toNat
  | .slip old new => bytes4 old.toNat ++ bytes4 new.toNat
  | .epoch seg | .epochLate seg => [match seg with | some e => byte e.val | none => 0xFF#8]
  | .fault c => [byte c.code]
  | .verifyDone .pass => [1]
  | .verifyDone (.fail e c) => [2, byte (presentEntry (some e)), byte c.code]
  | .verifyDone (.interrupted e) => [3, byte (presentEntry (some e))]
  | .adopted | .founded | .yielded | .joined | .left | .stall | .resumed | .epochAdopted | .restart => []

/-- The 16 bytes of a record image. -/
def recordImage (kind : Nat) (frame : FrameNo) (epoch : EpochNo) (fields : List Byte) : List Byte :=
  [byte kind] ++ bytes4 frame.toNat ++ bytes2 epoch.toNat ++ padTo 9 fields

/-- The image of a stored record (R160). -/
def Record.encode (r : Record) : List Byte := recordImage r.body.code r.frame r.epoch r.body.fields

/-- The image of the GAP record that READ LOG makes (R166). -/
def gapImage (frame : FrameNo) (epoch : EpochNo) (count : Nat) : List Byte := recordImage 0x3F frame epoch (bytes2 count)

end Sys2Proof.Machine
end

