-- ==== Sys2Proof/Machine/PlanTable.lean ====
section
/-! DEFINITION. The plan table (chapter 6): chains, the live set, WRITE PLAN and READ PLAN. -/

namespace Sys2Proof.Machine

/-- The entries that a walk along links meets from `entry` on, given the entries it has met already (R103). -/
def chainWalk (table : PlanTable) : Nat → List (Fin 64) → Fin 64 → List (Fin 64)
  | 0, _, _ => []
  | fuel + 1, met, entry =>
    if met.contains entry then []
    else
      match table.get entry with
      | none => []
      | some p =>
        match p.link with
        | .next e => entry :: chainWalk table fuel (entry :: met) e
        | .repeats _ | .park | .depart => [entry]

/-- The chain of a segment: at most 64 entries, each met once (R103). -/
def chainOf (table : PlanTable) (start : Fin 64) : List (Fin 64) := chainWalk table 64 [] start

/-- The link of a segment's END entry; of a broken chain, the link of its last entry (R103). -/
def endLink (table : PlanTable) (start : Fin 64) : Option Link :=
  ((chainOf table start).getLast?.bind table.get).map Plan.link

/-- The states in which the cursor's segment counts as live (R104). -/
def StationState.countsCursor : StationState → Bool
  | .joining | .flushing | .active | .leaving => true
  | .unconfigured | .standby | .listening | .founding | .detached => false

/-- The start entries of the three sources of the live set (R104). -/
def State.liveSources (s : State) : List (Fin 64) :=
  (if s.membership.state.countsCursor then s.cursor.segment.toList else [])
    ++ s.membership.joinSegment.toList ++ s.epochs.staged.toList

/-- Whether an entry is in the live set (R104). -/
def State.live (s : State) (entry : Fin 64) : Bool :=
  s.liveSources.any fun start => (chainOf s.table start).contains entry

/-- An entry index from an argument byte, none above 63 (R170). -/
def entryIndex (b : Byte) : Option (Fin 64) := if b.toNat < 64 then some (Fin.ofNat 64 b.toNat) else none

/-- A taken write (R107): the entry becomes what the image gives and the verify status NONE. A walk it ends is INTERRUPTED,
with its record (R119). -/
def writeEntry (entry : Fin 64) (content : Option Plan) (s : State) : State :=
  let written := { s with table := s.table.set entry.val content entry.isLt }
  match s.verifier with
  | .running _ =>
    { written with verifier := .idle (some entry) }.logChains [[s.record (.verifyDone (.interrupted entry))]]
  | .idle _ | .pass | .fail _ _ => { written with verifier := .idle none }

/-- WRITE PLAN as taken or refused at its tick (R105). Bytes after the image are ignored (R169). -/
def writePlanAction (index : Byte) (image : List Byte) (s : State) : State :=
  if s.membership.state = .unconfigured then s.reply .state
  else
    match entryIndex index with
    | none => s.reply .range
    | some entry =>
      if s.live entry then s.reply .live
      else
        match decodeEntry (image.take 72) with
        | none => s.reply .range
        | some content => (writeEntry entry content s).reply .accepted

/-- WRITE PLAN (R105). An image that ends early is not taken (R108). -/
def execWritePlan (index : Byte) (image : List Byte) (s : State) : Result :=
  .next (s.handOverImage 72 image (.writePlan index image) (writePlanAction index image))

/-- READ PLAN at its tick (R110): the image and the live marker. -/
def readPlanAction (index : Byte) (s : State) : State :=
  match entryIndex index with
  | none => s.reply .range
  | some entry =>
    match s.plan? entry with
    | none => s.reply .empty
    | some p => s.replyWith .accepted (p.encode ++ [if s.live entry then 1 else 0])

/-- READ PLAN (R110). -/
def execReadPlan (index : Byte) (s : State) : Result := .next (s.handOver (.readPlan index) (readPlanAction index))

end Sys2Proof.Machine
end

