-- ==== Sys2Proof/Machine/Verifier.lean ====
section
/-! DEFINITION. The plan verifier (chapter 7): the checks of one entry, the walk along chains, VERIFY and the walk's
conclusion. A taken write ends a walk (R119), so the table the walk reads is the table that stands at its conclusion. -/

namespace Sys2Proof.Machine

/-- The present strobe records of a plan. -/
def Plan.records (p : Plan) : List StrobeRecord := p.slots.toList.filterMap id

/-- The end of the last exposure of a burst, from the mark (R96, R116). -/
def Plan.exposuresEnd (p : Plan) : Nat :=
  p.exposureOffset + p.burstCount * p.exposureTime + (p.burstCount - 1) * p.burstGap

/-- The length of a record's pulse train (R100). -/
def StrobeRecord.trainLength (r : StrobeRecord) : Nat := r.pulses * r.onTime + (r.pulses - 1) * r.offTime

/-- The worst-case reference point of a record, from the mark (R116). -/
def Plan.referencePoint (p : Plan) : Reference → Nat
  | .mark => 0
  | .firstExpose => p.exposureOffset
  | .lastExposeEnd => p.exposuresEnd

/-- The worst-case busy time of a plan (R116). -/
def Plan.busyTime (p : Plan) : Nat :=
  (p.records.map fun r => p.referencePoint r.reference + r.delay + r.trainLength).foldl max p.exposuresEnd

/-- The first of the five checks that a plan fails against a hold limit in ticks (R115). -/
def Plan.firstFault (holdTicks : Nat) (p : Plan) : Option FailCode :=
  if holdTicks < p.minFrameTime then some .minFrame
  else if p.divisor ≤ p.phase then some .phase
  else if ¬ (p.records.map (·.channel)).Nodup then some .dupChannel
  else if ¬ (p.records.filterMap (·.lane)).Nodup then some .dupLane
  else if holdTicks < p.busyTime then some .busyTime
  else none

/-- How a chain walk ends (R117). -/
inductive ChainEnd where
  | sound
  | linkEmpty (holder : Fin 64)
  | cycle
  deriving DecidableEq, Repr

/-- Walks a chain from a VALID entry: the entries met, one tick each, and how the walk ends (R117). -/
def verifyChain (table : PlanTable) : Nat → List (Fin 64) → Fin 64 → Nat × ChainEnd
  | 0, _, _ => (0, .cycle)
  | fuel + 1, met, entry =>
    match (table.get entry).map Plan.link with
    | some (.next e) =>
      if (table.get e).isNone then (1, .linkEmpty entry)
      else if (entry :: met).contains e then (1, .cycle)
      else
        let rest := verifyChain table fuel (entry :: met) e
        (rest.1 + 1, rest.2)
    | some (.repeats _) | some .park | some .depart | none => (1, .sound)

/-- The FIELDS pass from a list of entries on: the tick of the first fault and the verdict, or none (R114, R115). -/
def fieldsPass (table : PlanTable) (holdTicks : Nat) : List (Fin 64) → Option (Nat × VerifyResult)
  | [] => none
  | e :: rest =>
    match (table.get e).bind (Plan.firstFault holdTicks) with
    | some code => some (Config.ticksPerEntry * (e.val + 1), .fail e code)
    | none => fieldsPass table holdTicks rest

/-- The CHAINS pass over the start entries that remain, `t` ticks after the walk began (R114, R117). -/
def chainsPass (table : PlanTable) : Nat → List (Fin 64) → Nat × VerifyResult
  | t, [] => (t, .pass)
  | t, e :: rest =>
    match verifyChain table 64 [] e with
    | (n, .sound) => chainsPass table (t + n) rest
    | (n, .linkEmpty holder) => (t + n, .fail holder .linkEmpty)
    | (n, .cycle) => (t + n, .fail e .cycle)

/-- The VALID entries in ascending order. -/
def validEntries (table : PlanTable) : List (Fin 64) := (List.finRange 64).filter fun e => (table.get e).isSome

/-- The whole walk: how many ticks it takes and its verdict (R114 to R118). -/
def walk (table : PlanTable) (holdTicks : Nat) : Nat × VerifyResult :=
  match fieldsPass table holdTicks (List.finRange 64) with
  | some r => r
  | none => chainsPass table (Config.ticksPerEntry * 64) (validEntries table)

/-- Which pass a walk is in (R112). The manual does not say what entry index and step count are in the CHAINS pass: the model
takes the chain's start entry and the ticks spent on that chain, and in the FIELDS pass the ticks spent on the entry (log
entry 46). -/
inductive WalkPosition where
  /-- The FIELDS pass, at an entry, with ticks spent on it. -/
  | fields (entry : Nat) (step : Nat)
  /-- The CHAINS pass, at the chain of a start entry, with ticks spent on it. -/
  | chains (start : Fin 64) (step : Nat)
  /-- The last chain is done and the conclusion not yet taken; the model's own value (log entry 46). -/
  | over
  deriving DecidableEq, Repr

/-- Where in the CHAINS pass a walk stands `t` ticks after that pass began (R114). -/
def chainsPosition (table : PlanTable) : Nat → List (Fin 64) → WalkPosition
  | _, [] => .over
  | t, e :: rest =>
    let n := (verifyChain table 64 [] e).1
    if t < n then .chains e t else chainsPosition table (t - n) rest

/-- The walk position while the status is RUNNING (R112, R114), computed from the tick at which the walk began. -/
def State.walkPosition (s : State) : Option WalkPosition :=
  match s.verifier with
  | .running since =>
    let t := s.now - since
    some (if t < Config.ticksPerEntry * 64 then .fields (t / Config.ticksPerEntry) (t % Config.ticksPerEntry)
      else chainsPosition s.table (t - Config.ticksPerEntry * 64) (validEntries s.table))
  | .idle _ | .pass | .fail _ _ => none

/-- The tick at which the walk in progress concludes. -/
def State.walkEnd (s : State) : Option Nat :=
  match s.verifier with
  | .running since => some (since + (walk s.table s.holdTicks).1)
  | .idle _ | .pass | .fail _ _ => none

/-- VERIFY at its tick (R113). -/
def verifyAction (s : State) : State :=
  if s.membership.state = .unconfigured ∨ s.membership.state = .detached then s.reply .state
  else
    match s.verifier with
    | .running _ => s.reply .busy
    | .idle _ | .pass | .fail _ _ => { s with verifier := .running s.now }.reply .accepted

/-- VERIFY (R113). -/
def execVerify (s : State) : Result := .next (s.handOver .verify verifyAction)

/-- The verify status that a verdict leaves (R118). -/
def VerifyResult.status : VerifyResult → VerifyStatus
  | .pass => .pass
  | .fail e c => .fail e c
  | .interrupted e => .idle (some e)

/-- The walk in progress concludes with its verdict and its VERIFY_DONE record (R118). -/
def concludeWalk (since : Nat) (s : State) : State :=
  let outcome := walk s.table s.holdTicks
  let s := s.advanceTo (since + outcome.1)
  { s with verifier := outcome.2.status }.logChains [[s.record (.verifyDone outcome.2)]]

/-- The conclusion of a walk; with no walk in progress nothing concludes (log entry 24). -/
def verifyWalkConclusionEffect (s : State) : State :=
  match s.verifier with
  | .running since => concludeWalk since s
  | .idle _ | .pass | .fail _ _ => s

/-- VERIFY WALK CONCLUSION (R118). -/
def execVerifyWalkConclusion (s : State) : Result := .next (s.onTick verifyWalkConclusionEffect)

end Sys2Proof.Machine
end

