-- ==== Sys2Proof/Machine/Cursor.lean ====
section
/-! DEFINITION. The plan cursor (R123 to R128): setting it, choosing a frame, consuming a repetition, and the leaving-frame
marker. -/

namespace Sys2Proof.Machine

/-- The passes a segment starts with: its END entry's loop count, 0 for ever (R123). -/
def startLoops (table : PlanTable) (start : Fin 64) : Loops :=
  match endLink table start with
  | some (.repeats (n + 1)) => .passes (n + 1)
  | some (.repeats 0) | some (.next _) | some .park | some .depart | none => .forever

/-- The repeat count of an entry. -/
def State.repeatCountOf (s : State) (entry : Fin 64) : Nat := ((s.plan? entry).map (·.repeatCount)).getD 0

/-- Sets the cursor's position to the start of a segment (R123, R136). The head mode last sent and the contents are not
touched. -/
def State.startSegment (start : Fin 64) (s : State) : State :=
  { s with
    cursor :=
      { s.cursor with
        segment := some start
        entry := some start
        repeatsLeft := s.repeatCountOf start
        loopsLeft := startLoops s.table start
        parked := false } }

/-- The cursor has reached its current entry (R126): if that is a DEPART entry and no leave is pending, the pending leave
mode becomes SEGMENT_END (R86). A station already LEAVING has no leave left to set. -/
def State.reachEntry (s : State) : State :=
  match (s.cursor.entry.bind s.plan?).map Plan.link with
  | some .depart =>
    if s.membership.pendingLeave.isNone ∧ s.membership.state ≠ .leaving then
      { s with membership := { s.membership with pendingLeave := some .segmentEnd } }
    else s
  | some (.next _) | some (.repeats _) | some .park | none => s

/-- What the current entry is to do in frame `frame`: the last three cases of R124. -/
def chooseEntry (entry : Fin 64) (p : Plan) (headSent : Option (Fin 4)) (frame : FrameNo) : Content :=
  if frame.toNat % p.divisor ≠ p.phase then .idle
  else if headSent ≠ some p.headMode then .settle entry
  else .apply entry

/-- The choice of R124 from the cursor alone: what a station that is not LEAVING is to do in frame `frame`. -/
def State.chooseRunning (s : State) (frame : FrameNo) : Content :=
  if s.cursor.parked then .parked
  else
    match s.cursor.entry with
    | none => .idle
    | some entry =>
      match s.plan? entry with
      | none => .idle
      | some p => chooseEntry entry p s.cursor.headSent frame

/-- The lookahead's choice for frame `frame` (R124). -/
def State.choose (s : State) (frame : FrameNo) : Content :=
  if s.membership.state = .leaving then .leave else s.chooseRunning frame

/-- Whether a content would be the last frame before a segment-end leave: the three conditions of R127. -/
def State.endsPass (s : State) (content : Content) : Bool :=
  match content with
  | .apply entry =>
    s.membership.pendingLeave == some .segmentEnd && s.cursor.repeatsLeft == 1
      && (match (s.plan? entry).map Plan.link with
          | some (.repeats _) | some .park | some .depart => true
          | some (.next _) | none => false)
  | .settle _ | .idle | .parked | .abstain | .leave | .flush _ => false

/-- Judges the leaving-frame marker on the lookahead held (R127). -/
def State.judgeMarker (s : State) : State :=
  { s with
    membership :=
      { s.membership with
        leavingFrame := (s.cursor.lookahead.map s.endsPass).getD false } }

/-- Chooses or replaces the lookahead, with the marker judged on it (R124, R127). -/
def State.setLookahead (content : Content) (s : State) : State :=
  { s with cursor := { s.cursor with lookahead := some content } }.judgeMarker

/-- The plan whose head code word a content sends (R125, R144). -/
def State.headPlan (s : State) : Content → Option Plan
  | .apply e | .settle e | .flush e => s.plan? e
  | .idle | .parked | .abstain | .leave => none

/-- The plan that a content applies (R6, R125). -/
def State.appliedPlan (s : State) : Content → Option Plan
  | .apply e => s.plan? e
  | .settle _ | .flush _ | .idle | .parked | .abstain | .leave => none

/-- The cursor after the last repetition of the entry with this link (R126). -/
def State.moveOn (link : Link) (s : State) : State :=
  let moved (entry : Fin 64) (c : Cursor) : Cursor :=
    { c with entry := some entry, repeatsLeft := s.repeatCountOf entry }
  match link with
  | .next e => { s with cursor := moved e s.cursor }.reachEntry
  | .park | .depart => { s with cursor := { s.cursor with parked := true } }
  | .repeats _ =>
    match s.cursor.loopsLeft, s.cursor.segment with
    | .forever, some start => { s with cursor := moved start s.cursor }.reachEntry
    | .passes (n + 2), some start =>
      { s with cursor := moved start { s.cursor with loopsLeft := .passes (n + 1) } }.reachEntry
    | .passes 1, _ | .passes 0, _ | .forever, none | .passes (_ + 2), none =>
      { s with cursor := { s.cursor with parked := true } }

/-- An APPLY made current consumes one repetition, and the cursor moves when none is left (R126). `lastRepetition` records
whether the frame runs the last repetition of the segment's final plan (R86). -/
def State.consume (s : State) : State :=
  let left := s.cursor.repeatsLeft - 1
  match (s.cursor.entry.bind s.plan?).map Plan.link with
  | none => s
  | some link =>
    let final := match link with
      | .next _ => false
      | .repeats _ | .park | .depart => true
    let s := { s with cursor := { s.cursor with repeatsLeft := left, lastRepetition := left == 0 && final } }
    if left = 0 then s.moveOn link else s

/-- Makes a content current (R125): the head mode of the word it sends becomes the mode last sent, and an APPLY consumes a
repetition. -/
def State.makeCurrent (content : Content) (s : State) : State :=
  let head := match s.headPlan content with
    | some p => some p.headMode
    | none => s.cursor.headSent
  let s := { s with cursor := { s.cursor with current := some content, headSent := head, lastRepetition := false } }
  match content with
  | .apply _ => s.consume
  | .settle _ | .idle | .parked | .abstain | .leave | .flush _ => s

end Sys2Proof.Machine
end

