-- ==== Sys2Proof/Machine/Flags.lean ====
section
/-! DEFINITION. What the part shows: the frame outcome and flags of a FRAME record, the frame-record policy, ATTN and the
output pins. -/

namespace Sys2Proof.Machine

/-! ## The FRAME record (R156 to R158, R161, R165) -/

/-- The frame outcome (R157). A LEAVE content never becomes current (R125), and a station without content runs no frame;
both read IDLE here (log entry 20). -/
def State.frameOutcome (s : State) : FrameOutcome :=
  match s.cursor.current with
  | some (.apply _) => if s.sequencer.burstSkipped then .headBusy else .exposed
  | some (.flush _) => if s.sequencer.burstSkipped then .headBusy else .flush
  | some (.settle _) => .settle
  | some .parked => .parked
  | some .abstain => .abstain
  | some .idle | some .leave | none => .idle

/-- The plan index of the FRAME record (R125). -/
def State.framePlan (s : State) : Option (Fin 64) :=
  match s.cursor.current with
  | some (.apply e) | some (.settle e) | some (.flush e) => some e
  | some .idle | some .parked | some .abstain | some .leave | none => none

/-- The lane of a generator's record and the reason, when the record was denied (R68). -/
def Generator.denial (g : Generator) : Option (Fin 8 × DenyReason) :=
  match g.record.bind (·.lane), g.decision with
  | some lane, some (.denied reason) => some (lane, reason)
  | some _, some .granted | some _, some .unarbitrated | some _, none | none, _ => none

/-- The denied lanes with their reasons, lanes ascending (R161). -/
def deniedLanes (gens : Vector Generator 4) : List (Fin 8 × DenyReason) :=
  (List.finRange 8).flatMap fun lane => (gens.toList.filterMap Generator.denial).filter fun d => d.1 == lane

/-- SHORT_BURST: a later exposure of the burst was skipped (R148, R157). -/
def Sequencer.shortBurst (q : Sequencer) : Bool :=
  match q.skipAt with
  | some k => decide (2 ≤ k)
  | none => false

/-- What the blocks hand over for the current frame (R158). -/
def State.frameReport (truncated : Bool) (s : State) : FrameReport :=
  { outcome := s.frameOutcome
    planIndex := s.framePlan
    exposures := s.sequencer.made
    late := s.barrier.late
    truncated
    headBusy := s.frameOutcome == .headBusy
    shortBurst := s.sequencer.shortBurst
    turn := s.resolver.turnMark
    channels := s.generators.map (·.outcome)
    granted := s.resolver.inUse
    denied := deniedLanes s.generators }

/-- A channel outcome that makes a frame an exception (R165). -/
def ChannelOutcome.exceptional : ChannelOutcome → Bool
  | .notRun | .cut => true
  | .grantedRun | .privateRun | .denied _ => false

/-- Whether a FRAME record is stored under EXCEPTIONS (R165). -/
def FrameReport.exceptional (r : FrameReport) : Bool :=
  r.outcome != .exposed || !r.denied.isEmpty || r.late || r.truncated || r.headBusy || r.shortBurst || r.turn
    || r.channels.toList.any fun o => (o.map ChannelOutcome.exceptional).getD false

/-- Whether the policy stores a FRAME record (R165). -/
def Policy.stores : Policy → FrameReport → Bool
  | .all, _ => true
  | .exceptions, r => r.exceptional

/-- The FRAME record of the current frame as offered to the log: one record, or none where the policy discards it. It
carries the frame number and epoch under which the frame ran (R158, log entry 8). -/
def State.frameRecord (truncated : Bool) (s : State) : List Record :=
  let report := s.frameReport truncated
  if s.prof.policy.stores report then
    [{ body := .frame report, frame := s.barrier.runFrame, epoch := s.barrier.runEpoch }]
  else []

/-! ## ATTN and the pins -/

/-- The attention set of the profile in force names a record's kind (R168). -/
def State.attends (s : State) (r : Record) : Bool := s.prof.attention.getLsbD r.body.code

/-- The level of ATTN (R168). -/
def State.attn (s : State) : Bool := s.membership.state == .detached || s.log.queue.any s.attends

/-- The bits of a head code word: a start bit, the mode, the code, each most significant bit first (R144). -/
def HeadWord.bits (w : HeadWord) : List Bool :=
  [true, w.mode.val.testBit 1, w.mode.val.testBit 0] ++ bitsOfByte w.code

/-- The level of HCODE at the clock (R144). -/
def State.hcode (s : State) : Bool :=
  match s.sequencer.headWord with
  | some w => w.bits.getD (s.now - w.start) false
  | none => false

/-- The levels to which a transmission would leave NOTE in the two halves of the current tick, true for released (R21). -/
def State.noteReleased (s : State) : Bool × Bool :=
  match s.transceiver.sending with
  | some t => (symbolsOf t.note.encode).getD (s.now - t.start) (true, true)
  | none => (true, true)

/-- The output pins. -/
structure Pins where
  framePulled : Bool
  noteReleased : Bool × Bool
  xtrig : Bool
  hcode : Bool
  strobes : Vector Bool 4
  attn : Bool
  /-- MISO is driven; otherwise it is high-impedance (R169, R179). Ahead of a transaction's last argument bit it stands as the
  last rise of CSN left it, the model's choice (log entry 5). -/
  misoDriven : Bool
  deriving DecidableEq, Repr

/-- A generator drives its output high exactly in ON (R151). -/
def Generator.output (g : Generator) : Bool := g.phase == .on

/-- The output pins (11.8). -/
def State.pins (s : State) : Pins :=
  { framePulled := s.barrier.pulled
    noteReleased := s.noteReleased
    xtrig := s.sequencer.xtrig
    hcode := s.hcode
    strobes := s.generators.map Generator.output
    attn := s.attn
    misoDriven := s.port.selected }

end Sys2Proof.Machine
end

