-- ==== Sys2Proof/Machine/Strobe.lean ====
section
/-! DEFINITION. The strobe generators as such (R150 to R154): taking a record, its reference, its phases, and how a
program is cut. -/

namespace Sys2Proof.Machine

/-- Enters ON at tick `t` (R151). -/
def Generator.enterOn (t : Nat) (g : Generator) : Generator :=
  { g with
    phase := .on
    pulsesLeft := g.pulsesLeft - 1
    phaseEnd := g.record.map fun r => t + r.onTime }

/-- The reference of a generator in WAIT occurs at tick `t`: it enters DELAY, or ON when the delay is 0 (R151). -/
def Generator.takeReference (t : Nat) (g : Generator) : Generator :=
  match g.record with
  | none => g
  | some r =>
    if g.phase ≠ .wait then g
    else if r.delay = 0 then g.enterOn t
    else { g with phase := .delay, phaseEnd := some (t + r.delay) }

/-- The run outcome of a decision (R151). -/
def Decision.runOutcome : Decision → ChannelOutcome
  | .granted => .grantedRun
  | .unarbitrated => .privateRun
  | .denied reason => .denied reason

/-- The train is over (R151). -/
def Generator.complete (g : Generator) : Generator :=
  { g with phase := .done, phaseEnd := none, outcome := g.decision.map Decision.runOutcome }

/-- The record will not run in this frame (R152). -/
def Generator.endUnrun (g : Generator) : Generator :=
  { g with phase := .done, phaseEnd := none, outcome := some .notRun }

/-- In DONE or CUT (R7). -/
def Generator.settled (g : Generator) : Bool := g.phase == .done || g.phase == .cut

/-- Cut whatever the policy, unless already settled (R153, R155). -/
def Generator.cutNow (g : Generator) : Generator :=
  if g.settled then g else { g with phase := .cut, phaseEnd := none, outcome := some .cut }

/-- What LEAVE(IMMEDIATE) does to a generator (R154): only a COMPLETE record in ON goes on. A TRUNCATE record is CUT also at the
tick at which its last ON phase would end, when the command comes first (log entry 42). -/
def Generator.leaveCut (g : Generator) : Generator :=
  match g.record.map StrobeRecord.cutPolicy, g.phase with
  | some .complete, .on => g
  | some .complete, _ | some .truncate, _ | none, _ => g.cutNow

/-- The end of an ON phase at tick `t` (R151). -/
def Generator.endOn (t : Nat) (g : Generator) : Generator :=
  if g.pulsesLeft = 0 then g.complete
  else { g with phase := .off, phaseEnd := g.record.map fun r => t + r.offTime }

/-- The end of an ON phase while the frame drains: the last pulse of a train ends it as run, any other is the last one it
gets (R154). -/
def Generator.endOnDraining (g : Generator) : Generator := if g.pulsesLeft = 0 then g.complete else g.cutNow

/-- What a generator becomes at the mark that gives it a record and a decision (R150 to R152). A denied record has no pulse
remaining, which the rule does not say (log entry 38). -/
def Generator.load (t : Nat) (dark : Bool) (r : StrobeRecord) (d : Decision) : Generator :=
  let g : Generator := { record := some r, decision := some d, phase := .wait, pulsesLeft := r.pulses }
  match d with
  | .denied reason => { g with phase := .done, pulsesLeft := 0, outcome := some (.denied reason) }
  | .granted | .unarbitrated =>
    match r.reference with
    | .mark => g.takeReference t
    | .firstExpose | .lastExposeEnd => if dark then g.endUnrun else g

/-- Waits on one of the given references (R152). -/
def Generator.waitsOn (refs : List Reference) (g : Generator) : Bool :=
  g.phase == .wait && (g.record.map fun r => refs.contains r.reference).getD false

/-- Every generator is DONE or CUT (R7). -/
def allSettled (gens : Vector Generator 4) : Bool := gens.toList.all Generator.settled

/-- A generator is in its ON phase (R11). -/
def anyOn (gens : Vector Generator 4) : Bool := gens.toList.any Generator.output

/-- Applies a change to every generator. -/
def State.mapGenerators (f : Generator → Generator) (s : State) : State := { s with generators := s.generators.map f }

/-- Replaces one channel's generator. -/
def State.setGenerator (channel : Fin 4) (g : Generator) (s : State) : State :=
  { s with generators := s.generators.set channel.val g channel.isLt }

/-- Hands a reference to the generators that wait on it (R146, R151). -/
def State.handReference (ref : Reference) (t : Nat) (s : State) : State :=
  s.mapGenerators fun g => if g.waitsOn [ref] then g.takeReference t else g

/-- Tells the generators that references will not occur in the frame (R147, R148, R152). -/
def State.dropReferences (refs : List Reference) (s : State) : State :=
  s.mapGenerators fun g => if g.waitsOn refs then g.endUnrun else g

/-- Cuts every generator that is not settled (R153, R155). -/
def State.cutGenerators (s : State) : State := s.mapGenerators Generator.cutNow

/-- Reports the fourth release condition once every generator is settled; once met it stays met (R7). -/
def State.reportStrobes (s : State) : State :=
  { s with barrier := { s.barrier with strobesDone := s.barrier.strobesDone || allSettled s.generators } }

end Sys2Proof.Machine
end

