-- ==== Sys2Proof/Machine/Frame.lean ====
section
/-! DEFINITION. How a frame and a stay in the rig end: normal and forced release, entry to STANDBY, entry to DETACHED
(R8 to R12, R87, R88, R90, R91, R153, R155). Each of these takes the records that other blocks append at the same tick, as
chains whose mutual order is free (R164). -/

namespace Sys2Proof.Machine

/-- The window timer runs for a parting note alone, pending or on the line (R27). -/
def Transceiver.partingTimed (x : Transceiver) : Bool := x.parting.isSome || (x.sending.isSome && !x.windowOpen)

/-- Everything that entry to STANDBY, DETACHED or UNCONFIGURED clears (R12, R20, R38, R41, R57, R90, R91, R94, R123, R129,
R143, R155). The mark history stays as it stands (R2). A parting note and its window timer survive only where `keepParting`
says so (R27, R38). -/
def State.clearRig (target : StationState) (fault : Option FaultCause) (keepParting : Bool) (s : State) : State :=
  { s with
    membership := { state := target, fault }
    barrier :=
      { lows := s.barrier.lows, highs := s.barrier.highs, sampled := s.barrier.sampled, marked := s.barrier.marked }
    transceiver :=
      if keepParting then
        { windowStart := if s.transceiver.partingTimed then s.transceiver.windowStart else none
          parting := s.transceiver.parting
          sending := s.transceiver.sending.map fun t => { t with judged := false } }
      else {}
    roster := {}
    resolver := {}
    cursor := {}
    epochs := {}
    sequencer := {}
    generators := Vector.replicate 4 {} }

/-- Entry to STANDBY from a rig state (R90): `frame` says whether a FRAME record is due and whether it is TRUNCATED; the
FRAME record comes before LEFT, and LEFT carries the frame number and epoch held just before. -/
def State.enterStandby (frame : Option Bool) (chains : List (List Record)) (s : State) : State :=
  let due := match frame with
    | some truncated => s.cutGenerators.frameRecord truncated
    | none => []
  (s.clearRig .standby none true).logChains (chains ++ [due ++ [s.record .left]])

/-- The records of an entry to DETACHED (R91): a participant's FRAME record with TRUNCATED, then FAULT. -/
def State.detachRecords (cause : FaultCause) (s : State) : List Record :=
  (if s.membership.state.participant then s.cutGenerators.frameRecord true else []) ++ [s.record (.fault cause)]

/-- A fault reported in a rig state makes the station DETACHED at that tick (R91). In any other state it changes nothing
(R92). -/
def State.detach (cause : FaultCause) (chains : List (List Record)) (s : State) : State :=
  if s.membership.state.inRig then
    (s.clearRig .detached (some cause) false).logChains (chains ++ [s.detachRecords cause])
  else s.logChains chains

/-- Releases FRAME and stops the hold timer (R8). -/
def State.releaseLine (s : State) : State :=
  { s with barrier := { s.barrier with phase := .released, pulled := false, holdStart := none } }

/-- The four release conditions are in hand (R8). -/
def Barrier.allMet (b : Barrier) : Bool := b.windowDone && b.minTimeDone && b.exposuresDone && b.strobesDone

/-- The release of a HOLDING station (R8): a LEAVING station's leave completes with it (R87). -/
def State.releaseFrame (chains : List (List Record)) (s : State) : State :=
  if s.membership.state = .leaving then s.enterStandby (some false) chains else s.releaseLine.logChains chains

/-- Releases FRAME at the tick at which the last of the four conditions becomes met (R8), and appends the tick's records. -/
def State.finish (chains : List (List Record)) (s : State) : State :=
  if s.barrier.phase = .holding ∧ s.barrier.allMet then s.releaseFrame chains else s.logChains chains

/-- XTRIG and HCODE go off and no later exposure of the frame starts (R10, R144, R153 to R155). R153 has the exposures still
scheduled recorded as skipped and R145 names no item for it: that an emptied schedule is all the record there is, is the
model's choice (log entry 50). -/
def State.stopSequencer (s : State) : State :=
  { s with sequencer := { s.sequencer with schedule := [], xtrig := false, headWord := none } }

/-- The forced release at the hold limit (R10, R153). In DRAINING it ends the drain (R11). -/
def State.forcedRelease (s : State) : State :=
  let cut := s.cutGenerators.stopSequencer
  let cut := { cut with barrier := { cut.barrier with late := true } }
  if s.barrier.phase = .draining then cut.enterStandby (some true) [] else cut.releaseFrame []

/-- Ends a drain when no COMPLETE record is in its ON phase any more (R11). -/
def State.finishDrain (s : State) : State := if anyOn s.generators then s else s.enterStandby (some true) []

/-- The minimum frame time has elapsed (R6). -/
def minFrameTimeElapsedEffect (s : State) : State :=
  match s.barrier.minTimeDue with
  | some due =>
    if s.frameOpen then
      let s := s.advanceTo due
      { s with barrier := { s.barrier with minTimeDone := true, minTimeDue := none } }.finish []
    else s
  | none => s

/-- MIN FRAME TIME ELAPSED (R6). -/
def execMinFrameTimeElapsed (s : State) : Result := .next (s.onTick minFrameTimeElapsedEffect)

/-- The hold timer reaches the hold limit in HOLDING or DRAINING (R9). -/
def holdLimitExpiryEffect (s : State) : State :=
  match s.barrier.holdStart with
  | some t =>
    if s.barrier.phase = .holding ∨ s.barrier.phase = .draining then (s.advanceTo (t + s.holdTicks)).forcedRelease else s
  | none => s

/-- HOLD LIMIT EXPIRY (R9). -/
def execHoldLimitExpiry (s : State) : Result := .next (s.onTick holdLimitExpiryEffect)

/-- A participant pulls FRAME at the tick after the mark and enters HOLDING (R5). -/
def participantPullEffect (s : State) : State :=
  if s.barrier.pullDue then
    let s := s.advanceTo (s.barrier.markTick + 1)
    { s with barrier := { s.barrier with pullDue := false, pulled := true, phase := .holding } }
  else s

/-- PARTICIPANT PULL (R5). -/
def execParticipantPull (s : State) : Result := .next (s.onTick participantPullEffect)

/-- The states and phases in which a stall is reported: JOINING, FLUSHING, ACTIVE, LEAVING, and FOUNDING after its pulse,
while the unit is WATCHING or RELEASED (R13). -/
def State.stallable (s : State) : Bool :=
  (s.barrier.phase == .watching || s.barrier.phase == .released) && s.membership.state.inRig
    && s.membership.state != .listening && !s.barrier.pullDue && !s.barrier.stallReported

/-- The stall timer reaches the stall limit: one STALL record until the next mark (R13). -/
def stallTimerExpiryEffect (s : State) : State :=
  match s.barrier.stallStart with
  | some t =>
    if s.stallable then
      let s := s.advanceTo (t + s.stallTicks)
      { s with barrier := { s.barrier with stallReported := true } }.logChains [[s.record .stall]]
    else s
  | none => s

/-- STALL TIMER EXPIRY (R13). -/
def execStallTimerExpiry (s : State) : Result := .next (s.onTick stallTimerExpiryEffect)

/-- A listener founds: the founding pulse begins (R15), the roster drops its members without records, the frame number and
epoch become 0 and the listening items are cleared (R41, R79). The founder is no newcomer at the end of window 0 (log
entry 37). That the judgement of the last listened window, the required list and the settled set go with the members is the
model's choice (log entry 51). -/
def State.found (s : State) : State :=
  { s with
    membership := { s.membership with state := .founding, adopted := none, quiet := 0, foreignHeard := false }
    barrier :=
      { s.barrier with
        phase := .pulsing, pulled := true, pulseStart := some s.now, stallStart := none, frameNo := 0 }
    roster := {}
    epochs := { s.epochs with epoch := 0, newcomer := false } }

/-- The listen timer reaches the stall limit in LISTENING (R15). A mark taken first at the same tick has restarted the
timer, and no pulse is made. -/
def listenTimerExpiryEffect (s : State) : State :=
  match s.barrier.stallStart with
  | some t =>
    if s.membership.state = .listening ∧ s.barrier.marked = false then (s.advanceTo (t + s.stallTicks)).found else s
  | none => s

/-- LISTEN TIMER EXPIRY (R15). -/
def execListenTimerExpiry (s : State) : Result := .next (s.onTick listenTimerExpiryEffect)

/-- The pulse timer reaches one slot time: FRAME is released and the unit is WATCHING with its stall timer restarted
(R15). -/
def foundingPulseEndEffect (s : State) : State :=
  match s.barrier.pulseStart with
  | some t =>
    if s.barrier.phase = .pulsing then
      let s := s.advanceTo (t + s.prof.slotTime)
      { s with
        barrier := { s.barrier with phase := .watching, pulled := false, pulseStart := none, stallStart := some s.now } }
    else s
  | none => s

/-- FOUNDING PULSE END (R15). -/
def execFoundingPulseEnd (s : State) : Result := .next (s.onTick foundingPulseEndEffect)

end Sys2Proof.Machine
end

