-- ==== Sys2Proof/Machine/Exposure.lean ====
section
/-! DEFINITION. The exposure sequencer and the phase ends of the strobe generators (R144 to R154). -/

namespace Sys2Proof.Machine

/-- The exposures of a burst, as start and end ticks (R96, R145). -/
def burstSchedule (mark : Nat) (p : Plan) : List (Nat × Nat) :=
  (List.range p.burstCount).map fun k =>
    let start := mark + p.exposureOffset + k * (p.exposureTime + p.burstGap)
    (start, start + p.exposureTime)

/-- The exposure schedule of a frame from its content (R145). -/
def State.scheduleFor (content : Content) (s : State) : List (Nat × Nat) :=
  match content with
  | .apply e => ((s.plan? e).map fun p => if p.dark then [] else burstSchedule s.now p).getD []
  | .flush e =>
    ((s.plan? e).map fun p => [(s.now + p.exposureOffset, s.now + p.exposureOffset + p.exposureTime)]).getD []
  | .settle _ | .idle | .parked | .abstain | .leave => []

/-- The contents whose exposure release condition is met at the mark (R7, R149). -/
def State.exposuresFree (content : Content) (s : State) : Bool :=
  match content with
  | .apply e => ((s.plan? e).map Plan.dark).getD true
  | .flush _ | .settle _ => false
  | .idle | .parked | .abstain | .leave => true

/-- The head code word is over (R144). -/
def hcodeWordSentEffect (s : State) : State :=
  match s.sequencer.headWord with
  | some w =>
    let s := s.advanceTo (w.start + Config.headWordTicks)
    { s with sequencer := { s.sequencer with headWord := none } }
  | none => s

/-- HCODE WORD SENT (R144). -/
def execHcodeWordSent (s : State) : Result := .next (s.onTick hcodeWordSentEffect)

/-- An exposure begins at tick `t` (R146): the first one of a frame is the FIRST_EXPOSE reference. -/
def State.beginExposure (t : Nat) (s : State) : State :=
  let first := s.sequencer.started == 0
  let s :=
    { s with
      sequencer :=
        { s.sequencer with started := s.sequencer.started + 1, made := s.sequencer.made + 1, xtrig := true } }
  if first then s.handReference .firstExpose t else s

/-- HRDY was low at a scheduled start: the first one skips the whole burst (R147), a later one the rest of it (R148). -/
def State.skipExposure (s : State) : State :=
  let position := s.sequencer.started + 1
  let whole := s.sequencer.started == 0
  let s :=
    { s with
      sequencer :=
        { s.sequencer with skipAt := some position, burstSkipped := s.sequencer.burstSkipped || whole } }
  let s := s.dropReferences (if whole then [.firstExpose, .lastExposeEnd] else [.lastExposeEnd])
  s.reportStrobes.finish []

/-- The exposure that is to start next: none is once a skip is recorded or one is in progress (R146). -/
def State.nextExposure (s : State) : Option (Nat × Nat) :=
  if s.frameOpen && s.sequencer.skipAt.isNone && !s.sequencer.xtrig then
    s.sequencer.schedule[s.sequencer.started]?
  else none

/-- The scheduled start of an exposure (R146). -/
def exposureStartEffect (hrdy : Bool) (s : State) : State :=
  match s.nextExposure with
  | some (start, _) =>
    let s := s.advanceTo start
    if hrdy then s.beginExposure start else s.skipExposure
  | none => s

/-- EXPOSURE START (R146). -/
def execExposureStart (hrdy : Bool) (s : State) : Result := .next (s.onTick (exposureStartEffect hrdy))

/-- The exposure in progress. -/
def State.runningExposure (s : State) : Option (Nat × Nat) :=
  if s.sequencer.xtrig then s.sequencer.schedule[s.sequencer.started - 1]? else none

/-- The end tick of the exposure in progress; that of the last one scheduled is the LAST_EXPOSE_END reference (R146). -/
def exposureEndEffect (s : State) : State :=
  match s.runningExposure with
  | some (_, stop) =>
    let s := s.advanceTo stop
    let last := s.sequencer.started == s.sequencer.schedule.length
    let s := { s with sequencer := { s.sequencer with xtrig := false } }
    if last then s.handReference .lastExposeEnd stop else s
  | none => s

/-- EXPOSURE END (R146). -/
def execExposureEnd (s : State) : Result := .next (s.onTick exposureEndEffect)

/-- The exposure release condition now waits for HRDY alone (R149): the schedule is over or skipped, or the head code word
of a SETTLE frame has been sent. -/
def State.awaitsReady (s : State) : Bool :=
  s.frameOpen && !s.barrier.exposuresDone
    && match s.cursor.current with
       | some (.settle _) => s.sequencer.headWord.isNone
       | some (.apply _) | some (.flush _) =>
         s.sequencer.skipAt.isSome
           || (s.sequencer.started == s.sequencer.schedule.length && !s.sequencer.xtrig)
       | some .idle | some .parked | some .abstain | some .leave | none => false

/-- HRDY is sampled high where the condition waits for it (R149). -/
def exposuresEndedEffect (s : State) : State :=
  if s.awaitsReady then { s with barrier := { s.barrier with exposuresDone := true } }.finish [] else s

/-- EXPOSURES ENDED (R149). -/
def execExposuresEnded (s : State) : Result := .next (s.onTick exposuresEndedEffect)

/-- The tick at which a generator's current phase ends, when that phase is the one given (R150). -/
def State.phaseEndOf (channel : Fin 4) (phase : StrobePhase) (s : State) : Option Nat :=
  let g := s.generators.get channel
  if g.phase = phase then g.phaseEnd else none

/-- The DELAY phase ends: the generator enters ON (R151). -/
def strobeDelayEndEffect (channel : Fin 4) (s : State) : State :=
  match s.phaseEndOf channel .delay with
  | some t => (s.advanceTo t).setGenerator channel ((s.generators.get channel).enterOn t)
  | none => s

/-- STROBE DELAY END (R151). -/
def execStrobeDelayEnd (channel : Fin 4) (s : State) : Result := .next (s.onTick (strobeDelayEndEffect channel))

/-- The ON phase ends (R151); while the frame drains it may be the one the release waits for (R11, R154). -/
def strobeOnEndEffect (channel : Fin 4) (s : State) : State :=
  match s.phaseEndOf channel .on with
  | some t =>
    let g := s.generators.get channel
    let s := s.advanceTo t
    if s.barrier.phase = .draining then (s.setGenerator channel g.endOnDraining).finishDrain
    else (s.setGenerator channel (g.endOn t)).reportStrobes.finish []
  | none => s

/-- STROBE ON END (R151). -/
def execStrobeOnEnd (channel : Fin 4) (s : State) : Result := .next (s.onTick (strobeOnEndEffect channel))

/-- The OFF phase ends: the generator enters ON for its next pulse (R151). -/
def strobeOffEndEffect (channel : Fin 4) (s : State) : State :=
  match s.phaseEndOf channel .off with
  | some t => (s.advanceTo t).setGenerator channel ((s.generators.get channel).enterOn t)
  | none => s

/-- STROBE OFF END (R151). -/
def execStrobeOffEnd (channel : Fin 4) (s : State) : Result := .next (s.onTick (strobeOffEndEffect channel))

end Sys2Proof.Machine
end

