-- ==== Sys2Proof/Machine/Roster.lean ====
section
/-! DEFINITION. The rig roster (chapter 3): notes arriving, the mark, the window end's count, and the own entry. -/

namespace Sys2Proof.Machine

/-- The set of a list of indices. -/
def setOf (indices : List (Fin 16)) : StationSet := indices.foldl (fun set i => set ||| (1#16 <<< i.val)) 0

/-- The member state that a note's sender state reports (R42). -/
def SenderState.member : SenderState → MemberState
  | .joining => .joining
  | .founding => .founding
  | .flushing => .flushing
  | .active => .active
  | .leaving => .leaving

/-- The entry for an index, none when absent (R39). -/
def Roster.entry (r : Roster) (index : Fin 16) : Option Member := r.members.find? fun m => m.index == index

/-- Puts an entry at its place among entries of ascending index, replacing one of its own index. -/
def putMember (m : Member) : List Member → List Member
  | [] => [m]
  | x :: rest =>
    if m.index < x.index then m :: x :: rest else if m.index = x.index then m :: rest else x :: putMember m rest

/-- A note updates its sender's entry (R42); a SLIP note leaves last frame heard and misses as they stand (R43). A LEAVE note
sets removal pending LEFT (R44). -/
def Member.hear (slipped : Bool) (n : Note) (m : Member) : Member :=
  { m with
    state := n.sender.member
    epoch := n.epoch
    ready := n.ready
    catchup := n.catchup
    lastHeard := if slipped then m.lastHeard else some n.frame
    misses := if slipped then m.misses else 0
    removal := if n.kind = .leave then .left else m.removal }

/-- The entry that a note creates (R42, R43). -/
def Member.create (slipped : Bool) (n : Note) : Member :=
  { index := n.index, state := n.sender.member, epoch := n.epoch, ready := n.ready, catchup := n.catchup
    lastHeard := if slipped then none else some n.frame, misses := 0
    removal := if n.kind = .leave then .left else .none, stamp := none, expected := false }

/-- The record of an entry's creation (R42, R43). -/
def Note.arrival (n : Note) : RecordBody :=
  match n.kind with
  | .join | .found => .memberAdded n.index
  | .status | .leave => .stray n.index

/-- The roster takes a VALID or SLIP note at its completion (R42 to R44). -/
def State.hearNote (slipped : Bool) (n : Note) (s : State) : State :=
  match s.roster.entry n.index with
  | some m => { s with roster := { s.roster with members := putMember (m.hear slipped n) s.roster.members } }
  | none =>
    { s with roster := { s.roster with members := putMember (Member.create slipped n) s.roster.members } }.logChains
      [[s.record n.arrival]]

/-- The MEMBER_LEFT record of an entry removed with LEFT, with its removal stamp (R48); an entry never stamped takes what
the station holds (log entry 20). -/
def State.leftRecord (s : State) (m : Member) : Option Record :=
  match m.removal, m.stamp with
  | .left, some (frame, epoch) => some { body := .memberLeft m.index, frame, epoch }
  | .left, none => some (s.record (.memberLeft m.index))
  | .lost, _ | .none, _ => none

/-- The MEMBER_LEFT records of a mark, indices ascending (R48, R53). -/
def State.leftRecords (s : State) : List Record := s.roster.members.filterMap s.leftRecord

/-- The states of an expected member (R45). -/
def MemberState.expectable : MemberState → Bool
  | .joining | .founding | .flushing | .active | .leaving => true
  | .lost => false

/-- The roster at a frame mark: removals, then the expected set, and the members then ACTIVE (R45, R48, R51, R140). -/
def Roster.atMark (r : Roster) : Roster :=
  let kept := (r.members.filter fun m => m.removal == .none).map fun m => { m with expected := m.state.expectable }
  { r with
    members := kept
    required := setOf ((kept.filter fun m => m.expected && m.state == .active).map fun m => m.index)
    settled := setOf ((kept.filter fun m => m.state == .active || m.state == .leaving).map fun m => m.index) }

/-- Whether a slot's outcome is VALID (R35). -/
def SlotOutcome.isValid : SlotOutcome → Bool
  | .valid _ => true
  | .pending | .silent | .lineLow | .garbage | .foreign | .slip _ | .ownOk _ | .ownMismatch | .notSent => false

/-- The miss count of one member at a window end (R46). -/
def Member.count (limit : Nat) (heard : Bool) (m : Member) : Member :=
  if m.expected && !heard then { m with misses := min limit (m.misses + 1) } else m

/-- A counted member is judged LOST (R47). -/
def Member.isLost (limit : Nat) (m : Member) : Bool := m.misses == limit && m.removal == .none

/-- One member at a window end: the count, the loss, and the stamp of a departure (R44, R46, R47). -/
def Member.atWindowEnd (limit : Nat) (frame : FrameNo) (epoch : EpochNo) (heard : Bool) (m : Member) : Member :=
  let m := m.count limit heard
  if m.isLost limit then { m with state := .lost, removal := .lost }
  else if m.removal = .left then { m with stamp := some (frame, epoch) }
  else m

/-- The members judged LOST at the window end that stands, indices ascending (R47). -/
def State.lostMembers (s : State) : List (Fin 16) :=
  (s.roster.members.filter fun m =>
    (m.count s.prof.missLimit (s.outcomeOf m.index).isValid).isLost s.prof.missLimit).map fun m => m.index

/-- The roster at a window end, with the judgement of the own view (R46, R47, R50). -/
def State.rosterAtEnd (view : Bool) (s : State) : Roster :=
  { s.roster with
    members := s.roster.members.map fun m =>
      m.atWindowEnd s.prof.missLimit s.barrier.frameNo s.epochs.epoch (s.outcomeOf m.index).isValid
    view := some view }

/-- The state that the own entry shows; none where there is no own entry (R40, R41). -/
def StationState.ownEntry : StationState → Option MemberState
  | .joining => some .joining
  | .founding => some .founding
  | .flushing => some .flushing
  | .active => some .active
  | .leaving => some .leaving
  | .unconfigured | .standby | .listening | .detached => none

/-- The own entry, read from the station's own blocks (R40). -/
def State.ownEntry (s : State) : Option Member :=
  s.membership.state.ownEntry.map fun state =>
    { index := s.prof.index, state, epoch := s.epochs.epoch, ready := s.epochs.ready.isSome
      catchup := s.epochs.turn == .catchingUp
      lastHeard := if state = .founding then none else some s.barrier.frameNo
      misses := 0, removal := .none, stamp := none, expected := false }

end Sys2Proof.Machine
end

