-- ==== Sys2Proof/Machine/Grants.lean ====
section
/-! DEFINITION. The lane resolver (chapter 4): the grant table, and the decisions at a mark. -/

namespace Sys2Proof.Machine

/-- The claims that enter a computation, with the station that made them (R58). -/
abbrev Entering := List (Fin 16 × List Claim)

/-- The claims of one slot that enter: those of a VALID note, and of the own note read back OWN_OK (R58). -/
def SlotOutcome.claims : SlotOutcome → Option (List Claim)
  | .valid n | .ownOk n => some n.claims
  | .pending | .silent | .lineLow | .garbage | .foreign | .slip _ | .ownMismatch | .notSent => none

/-- The entering claims of the closed receipt list (R58). -/
def State.entering (s : State) : Entering :=
  (List.finRange 16).filterMap fun slot => (s.outcomeOf slot).claims.map fun cs => (slot, cs)

/-- The claimants of a lane with the priorities of their claims, indices ascending (R60). -/
def claimantsOf (entering : Entering) (lane : Fin 8) : List (Fin 16 × Fin 4) :=
  entering.filterMap fun e => (e.2.find? fun c => c.lane == lane).map fun c => (e.1, c.priority)

/-- The station indices in the order t, t+1, …, W−1, 0, …, t−1 (R60). -/
def cyclicOrder (width t : Nat) : List Nat := (List.range width).map fun k => (t + k) % width

/-- The claimants that hold the highest priority (R60). -/
def topClaimants (claimants : List (Fin 16 × Fin 4)) : List (Fin 16 × Fin 4) :=
  let top := (claimants.map fun c => c.2.val).foldl max 0
  claimants.filter fun c => c.2.val == top

/-- The winner of a lane: the first of the highest claimants in the cyclic order (R60). -/
def laneWinner (width t : Nat) (claimants : List (Fin 16 × Fin 4)) : Option (Fin 16 × Fin 4) :=
  (cyclicOrder width t).findSome? fun k => (topClaimants claimants).find? fun c => c.1.val == k

/-- One lane of the table (R60). -/
def laneEntry (width t : Nat) (entering : Entering) (lane : Fin 8) : LaneEntry :=
  let claimants := claimantsOf entering lane
  { claimants := setOf (claimants.map fun c => c.1), winner := laneWinner width t claimants }

/-- The grant table for a frame (R58 to R61). The tie-break starts at the frame number's remainder by W (R59). -/
def grantTable (width : Nat) (entering : Entering) (frame : FrameNo) (complete : Bool) : GrantTable :=
  { frame, complete, lanes := Vector.ofFn fun lane => laneEntry width (frame.toNat % width) entering lane }

/-- The resolver's decision for one record of frame `frame`'s content: the first case of R63 that applies. -/
def State.decideRecord (frame : FrameNo) (turn : Bool) (r : StrobeRecord) (s : State) : Decision :=
  match r.lane with
  | none => .unarbitrated
  | some lane =>
    if turn then .denied .turn
    else
      match s.resolver.table with
      | none => .denied .forfeit
      | some t =>
        if t.frame ≠ frame ∨ t.complete = false then .denied .forfeit
        else if ((t.lanes.get lane).winner.map fun w => w.1) = some s.prof.index then .granted
        else .denied .lostArbitration

/-- The record of a plan that names a channel; a verified plan has at most one (R150). -/
def Plan.onChannel (p : Plan) (channel : Fin 4) : Option StrobeRecord := p.records.find? fun r => r.channel == channel

/-- The generators at the mark of frame `frame` with this content (R150 to R152). -/
def State.loadGenerators (frame : FrameNo) (turn : Bool) (content : Content) (s : State) : Vector Generator 4 :=
  match s.appliedPlan content with
  | none => Vector.replicate 4 {}
  | some p =>
    Vector.ofFn fun channel =>
      match p.onChannel channel with
      | none => {}
      | some r => Generator.load s.now p.dark r (s.decideRecord frame turn r)

/-- The lanes of the GRANTED records: the in-use set (R62). -/
def grantedLanes (gens : Vector Generator 4) : LaneSet :=
  gens.toList.foldl
    (fun set g =>
      match g.record.bind StrobeRecord.lane, g.decision with
      | some lane, some .granted => set ||| (1#8 <<< lane.val)
      | some _, some .unarbitrated | some _, some (.denied _) | some _, none | none, _ => set)
    0

end Sys2Proof.Machine
end

