-- ==== Sys2Proof/Machine/WindowEnd.lean ====
section
/-! DEFINITION. The window-end handoff (R37): what each block concludes from the closed receipt list and from the state held
before the handoff. Every definition here that takes a state takes the state before the handoff. -/

namespace Sys2Proof.Machine

/-! ## What the closed list says -/

/-- The notes of the VALID entries, slots ascending. -/
def State.validNotes (s : State) : List Note :=
  (List.finRange 16).filterMap fun slot =>
    match s.outcomeOf slot with
    | .valid n => some n
    | .pending | .silent | .lineLow | .garbage | .foreign | .slip _ | .ownOk _ | .ownMismatch | .notSent => none

/-- The notes of the VALID and SLIP entries, slots ascending. -/
def State.heardNotes (s : State) : List Note :=
  (List.finRange 16).filterMap fun slot =>
    match s.outcomeOf slot with
    | .valid n | .slip n => some n
    | .pending | .silent | .lineLow | .garbage | .foreign | .ownOk _ | .ownMismatch | .notSent => none

/-- The value that every item of a list that is not empty has in common. -/
def common {α β : Type} [DecidableEq β] (f : α → β) : List α → Option β
  | [] => none
  | x :: rest => if rest.all fun y => f y == f x then some (f x) else none

/-! ## Frame-number adoption (R17 to R19, R49) -/

/-- The adoption of a window end. -/
inductive Adoption where
  | none
  | listening (frame : FrameNo) (epoch : EpochNo)
  | slip (frame : FrameNo)
  | yield (frame : FrameNo) (epoch : EpochNo)
  deriving DecidableEq, Repr

/-- The listening condition (R17). -/
def State.listeningAdoption (s : State) : Adoption :=
  if s.membership.state = .listening ∧ s.membership.adopted = none then
    match common (fun n => (n.frame, n.epoch)) s.validNotes with
    | some (frame, epoch) => .listening frame epoch
    | none => .none
  else .none

/-- The slip condition (R18). A founder that became LEAVING in window 0 does not slip there (log entry 33). -/
def State.slipAdoption (s : State) : Adoption :=
  if s.hasNumber ∧ s.membership.founder = false then
    let notes := s.heardNotes.filter fun n => n.kind == .status || n.kind == .leave
    match common Note.frame notes with
    | some frame =>
      if frame ≠ s.barrier.frameNo ∧ (2 ≤ notes.length ∨ notes.any fun n => decide (n.index < s.prof.index)) then
        .slip frame
      else .none
    | none => .none
  else .none

/-- The yield condition (R19). A founder that became LEAVING in window 0 does not yield (log entry 33). -/
def State.yieldAdoption (s : State) : Adoption :=
  if s.membership.state = .flushing ∧ s.membership.founder then
    match common (fun n => (n.frame, n.epoch)) (s.heardNotes.filter fun n => n.kind == .status) with
    | some (frame, epoch) =>
      if (frame, epoch) ≠ (s.barrier.frameNo, s.epochs.epoch) then .yield frame epoch else .none
    | none => .none
  else .none

/-- The adoption of the window end; at most one of the three conditions can hold (R49). -/
def State.adoption (s : State) : Adoption :=
  match s.listeningAdoption with
  | .none =>
    match s.yieldAdoption with
    | .none => s.slipAdoption
    | a => a
  | a => a

/-- The frame number that stands after the handoff. -/
def State.numberAfter (s : State) : FrameNo :=
  match s.adoption with
  | .none => s.barrier.frameNo
  | .listening frame _ | .slip frame | .yield frame _ => frame

/-! ## The judgement of the own view (R50) -/

/-- Every member marked expected has a VALID outcome (R50, first condition). -/
def State.expectedHeard (s : State) : Bool :=
  s.roster.members.all fun m => !m.expected || (s.outcomeOf m.index).isValid

/-- The own slot is OWN_OK (R50, second condition). -/
def State.ownHeard (s : State) : Bool :=
  match s.outcomeOf s.prof.index with
  | .ownOk _ => true
  | .pending | .silent | .lineLow | .garbage | .foreign | .valid _ | .slip _ | .ownMismatch | .notSent => false

/-- No slot is GARBAGE or LINE_LOW (R50, fifth condition). -/
def State.noneDamaged (s : State) : Bool :=
  (List.finRange 16).all fun slot => s.outcomeOf slot != .garbage && s.outcomeOf slot != .lineLow

/-- The own view of the window is complete (R50). -/
def State.completeView (s : State) : Bool :=
  s.expectedHeard && s.ownHeard && s.adoption == .none && !s.transceiver.closedEarly && s.noneDamaged

/-! ## Epochs (R135 to R140) -/

/-- A VALID entry carries the own epoch plus one. -/
def State.oneAheadHeard (s : State) : Bool := s.validNotes.any fun n => n.epoch == s.epochs.epoch + 1

/-- The station takes the members' epoch at this window end, listening or yielding. -/
def Adoption.takesEpoch : Adoption → Bool
  | .listening _ _ | .yield _ _ => true
  | .none | .slip _ => false

/-- A note is judged for split (R140). -/
def State.judges (s : State) (n : Note) : Bool :=
  (n.sender == .active || n.sender == .leaving) && s.roster.settled.getLsbD n.index.val

/-- The epoch of a judged note is accounted for (R140). -/
def State.epochAccounted (s : State) (n : Note) : Bool :=
  n.epoch == s.epochs.epoch
    || (n.epoch == s.epochs.epoch - 1 && n.catchup)
    || (n.epoch == s.epochs.epoch + 1 && (s.epochs.turn == .catchingUp || s.epochs.newcomer))

/-- The states in which notes are judged for split (R140). -/
def StationState.judgesSplit : StationState → Bool
  | .joining | .flushing | .active | .leaving => true
  | .unconfigured | .standby | .listening | .founding | .detached => false

/-- A split is found at this window end (R140). -/
def State.split (s : State) : Bool :=
  s.membership.state.judgesSplit && !s.adoption.takesEpoch
    && s.validNotes.any fun n => s.judges n && !s.epochAccounted n

/-- A newcomer adopts the next epoch (R139). -/
def State.adoptsEpoch (s : State) : Bool := s.epochs.newcomer && s.oneAheadHeard && !s.adoption.takesEpoch

/-- The required member with this index announced readiness on the own epoch (R134, R135). -/
def State.readyHeard (s : State) (index : Fin 16) : Bool :=
  match s.outcomeOf index with
  | .valid n => n.ready && !n.catchup && n.epoch == s.epochs.epoch
  | .pending | .silent | .lineLow | .garbage | .foreign | .slip _ | .ownOk _ | .ownMismatch | .notSent => false

/-- Every required member other than self announced readiness (R135). -/
def State.allReady (s : State) : Bool :=
  (List.finRange 16).all fun i => !s.roster.required.getLsbD i.val || s.readyHeard i

/-- The advance rule and the catch-up rule can apply: ACTIVE, turn state NONE, readiness announced, no adoption of an epoch
(R135, R137, R139). -/
def State.decisive (s : State) : Bool :=
  s.membership.state == .active && s.epochs.turn == .idle && s.epochs.announced && !s.adoptsEpoch

/-- An advance is decided (R135). -/
def State.decidesAdvance (s : State) : Bool := s.decisive && s.completeView && s.allReady

/-- A catch-up starts (R137). -/
def State.startsCatchUp (s : State) : Bool := s.decisive && !s.completeView

/-- A deferred unready that no advance or catch-up overrides takes effect (R133). -/
def EpochUnit.settleUnready (e : EpochUnit) : EpochUnit :=
  if e.deferred then { e with ready := none, deferred := false } else e

/-- A newcomer at this window end (R139). -/
def State.isNewcomer (s : State) : Bool :=
  s.membership.state == .joining || s.membership.state == .founding || s.membership.state == .flushing
    || (match s.adoption with
        | .listening _ _ => true
        | .none | .slip _ | .yield _ _ => false)

/-- The epoch that stands after the handoff. -/
def State.epochAfter (s : State) : EpochNo :=
  match s.adoption with
  | .listening _ epoch | .yield _ epoch => epoch
  | .none | .slip _ => if s.adoptsEpoch then s.epochs.epoch + 1 else s.epochs.epoch

/-- The epoch unit's flags after the handoff: an adoption clears an ACTIVE station's readiness (R139), an advance is decided
(R135), a catch-up starts (R137) or resolves (R138), or a deferred unready takes effect (R133). -/
def State.turnAfter (s : State) : EpochUnit :=
  let e := s.epochs
  if s.adoptsEpoch then
    if s.membership.state = .active then { e with ready := none, deferred := false } else e.settleUnready
  else if s.decidesAdvance then { e with turn := .advanceDue false, deferred := false }
  else if s.startsCatchUp then { e with turn := .catchingUp, deferred := false }
  else if e.turn = .catchingUp then { e with turn := if s.oneAheadHeard then .advanceDue true else .idle }
  else e.settleUnready

/-- The epoch unit after the handoff. -/
def State.epochsAtEnd (s : State) : EpochUnit :=
  { s.turnAfter with epoch := s.epochAfter, newcomer := s.isNewcomer }

/-! ## The listener's count (R74, R75) -/

/-- No VALID entry in a window of a listener: the quiet-window count rises (R75). -/
def State.quietAfter (s : State) : Nat := if s.validNotes.isEmpty then s.membership.quiet + 1 else 0

/-- The foreign-heard marker after the handoff (R75). -/
def State.foreignAfter (s : State) : Bool :=
  s.validNotes.isEmpty && (s.membership.foreignHeard || s.transceiver.foreignSet != 0)

/-- The fault of a listener whose quiet-window count reaches 4 (R75). -/
def State.quietFault (s : State) : Option FaultCause :=
  if s.membership.state = .listening ∧ Config.quietLimit ≤ s.quietAfter then
    some (if s.foreignAfter then .profileMismatch else .noNotes)
  else none

/-- The fault found at the window end (R75, R140). -/
def State.endFault (s : State) : Option FaultCause := if s.split then some .epochSplit else s.quietFault

/-- The membership controller after the handoff: a listener's items (R74, R75), and the founder marker, which ends with
window 0 (R80). -/
def State.membershipAtEnd (s : State) : Membership :=
  let m := { s.membership with founder := false }
  if s.membership.state = .listening then
    { m with
      quiet := s.quietAfter
      foreignHeard := s.foreignAfter
      adopted := match s.adoption with
        | .listening frame _ => some frame
        | .none | .slip _ | .yield _ _ => m.adopted }
  else m

/-! ## The handoff -/

/-- A table is computed in JOINING, FLUSHING, ACTIVE and LEAVING (R58). -/
def State.resolverAtEnd (s : State) : Resolver :=
  if s.membership.state.judgesSplit then
    { s.resolver with table := some (grantTable s.prof.width s.entering (s.numberAfter + 1) s.completeView) }
  else s.resolver

/-- The window is closed, and the own slot has passed (R23, R25). The list stays until the next opening. That the window timer
stops here, so that the slot position reads 0 until the next mark, is the model's choice (log entry 44). -/
def Transceiver.close (t : Transceiver) : Transceiver :=
  { t with windowOpen := false, windowStart := none, ownPassed := true }

/-- The records of the handoff, as chains whose mutual order is free (R31, R46, R47, R74, R80, R139, R162, R164). FOREIGN and
SLIP carry the number and epoch held before the handoff's adoptions (log entry 40). At a split neither adoption is carried
out, and neither SLIP nor EPOCH_ADOPTED is appended (R140; log entry 39). -/
def State.endRecords (s : State) : List (List Record) :=
  [ if s.transceiver.foreignSet = 0 then [] else [s.record (.foreign s.transceiver.foreignSet)],
    s.lostMembers.map fun i => s.record (.memberLost i),
    match s.adoption with
    | .none => []
    | .listening frame epoch => [{ body := .adopted, frame, epoch }]
    | .slip frame => if s.split then [] else [s.record (.slip s.barrier.frameNo frame)]
    | .yield frame epoch => [{ body := .yielded, frame, epoch }],
    if s.adoptsEpoch && !s.split then [{ s.record .epochAdopted with epoch := s.epochs.epoch + 1 }] else [] ]

/-- The cursor's part (R128, R137): a catch-up replaces the lookahead by ABSTAIN; otherwise a slip or a yield repeats the
choice for the adopted number plus one. -/
def State.cursorAtEnd (s before : State) : State :=
  if before.startsCatchUp then s.setLookahead .abstain
  else
    match before.adoption with
    | .slip frame | .yield frame _ =>
      if s.membership.state.participant then s.setLookahead (s.choose (frame + 1)) else s
    | .none | .listening _ _ => s

/-- The state after a handoff that finds no fault; every block's conclusion is drawn from `s`, the state before it (R37).
The first release condition is a participant's (R6). -/
def State.afterHandoff (s : State) : State :=
  { s with
    barrier :=
      { s.barrier with
        frameNo := s.numberAfter
        windowDone := s.barrier.windowDone || s.membership.state.participant }
    transceiver := s.transceiver.close
    roster := s.rosterAtEnd s.completeView
    resolver := s.resolverAtEnd
    membership := s.membershipAtEnd
    epochs := s.epochsAtEnd }.cursorAtEnd s

/-- The window-end handoff (R37). A fault detaches the station there (R75, R140); that its MEMBER_LOST records are appended
all the same is the model's choice (log entry 30), and so is what becomes of a SLIP record there: none at a split, one at a
listener's fourth quiet window (log entry 39). A leaving frame that ends here leaves a LEFT record with the number and
epoch after the handoff's adoption, the model's choice too (log entry 34). -/
def State.handoff (s : State) : State :=
  match s.endFault with
  | some cause => s.detach cause s.endRecords
  | none => s.afterHandoff.finish s.endRecords

/-- The window end (R23, R37). -/
def windowEndEffect (s : State) : State :=
  if s.transceiver.windowOpen then (s.advanceTo s.windowEndTick).handoff else s

/-- WINDOW END (R37). -/
def execWindowEnd (s : State) : Result := .next (s.onTick windowEndEffect)

end Sys2Proof.Machine
end

