-- ==== Sys2Proof/Machine/Mark.lean ====
section
/-! DEFINITION. The frame mark (R2, R3, R5, R14, R16, R24, R78, R79, R83, R85 to R87, R123 to R127, R136, R144, R145): the
early close, what the phase makes of the mark, the content of the new frame, and the samples that lead to a mark. -/

namespace Sys2Proof.Machine

/-! ## The window at a mark -/

/-- An early close's changes to the list (R24): the own transmission is cut, and every slot not completed becomes SILENT,
the own one NOT_SENT (log entry 12). -/
def Transceiver.cutWindow (width : Nat) (own : Fin 16) (t : Transceiver) : Transceiver :=
  { t with
    sending := none
    closedEarly := true
    receipt := Vector.ofFn fun slot =>
      if t.receipt.get slot ≠ .pending ∨ width ≤ slot.val then t.receipt.get slot
      else if slot = own then .notSent
      else .silent }

/-- A mark that finds a window open closes it early, with its handoff (R24). -/
def State.closeEarly (s : State) : State :=
  if s.transceiver.windowOpen then
    { s with transceiver := s.transceiver.cutWindow s.prof.width s.prof.index }.handoff
  else s

/-- The opening of a window at tick `t` (R23, R35). A parting note still pending is discarded (R27); one that is on the line
goes on. That the transmit image and the receive buffer are emptied is the model's choice (log entry 41). -/
def Transceiver.openAt (t : Nat) (x : Transceiver) : Transceiver :=
  { windowStart := some t, windowOpen := true, ownPassed := false, image := none, sending := x.sending, parting := none
    buffer := [], receipt := Vector.replicate 16 .pending, foreignSet := 0, closedEarly := false }

/-- The roster's and the transceiver's part of every mark that is acted on (R5, R23, R45, R48, R134). -/
def State.markWindow (s : State) : State :=
  { s with
    roster := s.roster.atMark
    transceiver := s.transceiver.openAt s.now
    epochs := { s.epochs with announced := false } }

/-- The RESUMED record of a mark taken with the stall-reported flag set (R14). -/
def State.resumedRecords (frame : FrameNo) (epoch : EpochNo) (s : State) : List Record :=
  if s.barrier.stallReported then [{ body := .resumed, frame, epoch }] else []

/-- A mark taken in LISTENING (R3, R13, R74): the frame number rises only once one is adopted (R4). -/
def State.listenMark (s : State) : State :=
  let frame := if s.membership.adopted.isSome then s.barrier.frameNo + 1 else s.barrier.frameNo
  { s with
    barrier := { s.barrier with frameNo := frame, stallStart := some s.now, markTick := s.now, stallReported := false }
    }.markWindow.logChains [s.leftRecords, s.resumedRecords frame s.epochs.epoch]

/-! ## Leaving -/

/-- The station becomes LEAVING (R87): readiness is cleared and a catch-up abandoned. That a deferred unready goes with the
ready flag is the model's choice (log entry 45). -/
def State.becomeLeaving (s : State) : State :=
  { s with
    membership := { s.membership with state := .leaving, pendingLeave := none, leavingFrame := false }
    epochs :=
      { s.epochs with
        ready := none
        deferred := false
        turn := if s.epochs.turn = .catchingUp then .idle else s.epochs.turn } }

/-! ## The epoch advance (R136) -/

/-- An advance is due. -/
def TurnState.isDue : TurnState → Bool
  | .advanceDue _ => true
  | .idle | .catchingUp => false

/-- The segment that an advance makes current: the staged one under SWITCH, none under KEEP. -/
def EpochUnit.switchTo (e : EpochUnit) : Option (Fin 64) :=
  match e.ready with
  | some .switch => e.staged
  | some .keep | none => none

/-- The advance of a mark with turn state ADVANCE_DUE (R136). -/
def State.advanceEpoch (s : State) : State :=
  let advanced : State :=
    { s with epochs := { s.epochs with epoch := s.epochs.epoch + 1, ready := none, deferred := false, turn := .idle } }
  match s.epochs.switchTo with
  | some start =>
    ({ advanced with epochs := { advanced.epochs with staged := none } }.startSegment start).reachEntry
  | none => advanced

/-- The EPOCH or EPOCH_LATE record of an advance at the mark of frame `frame` (R136). -/
def State.advanceRecords (frame : FrameNo) (s : State) : List Record :=
  match s.epochs.turn with
  | .advanceDue false => [{ body := .epoch s.epochs.switchTo, frame, epoch := s.epochs.epoch + 1 }]
  | .advanceDue true => [{ body := .epochLate s.epochs.switchTo, frame, epoch := s.epochs.epoch + 1 }]
  | .idle | .catchingUp => []

/-! ## The content of the new frame -/

/-- The content held for the new frame. A leave never becomes current (R125; log entry 20). -/
def State.heldContent (s : State) : Content :=
  match s.cursor.lookahead with
  | some .leave | none => .idle
  | some content => content

/-- The first mark of a JOINING or FOUNDING station (R78, R79, R123): the cursor is set to the join segment, whose start
entry's flush is the content. -/
def State.startFlush (founder : Bool) (s : State) : State :=
  let s := { s with membership := { s.membership with state := .flushing, founder, adopted := none } }
  match s.membership.joinSegment with
  | some start => ((s.startSegment start).reachEntry).makeCurrent (.flush start)
  | none => s.makeCurrent .idle

/-- A participant with no leave in effect at a mark: a FLUSHING one becomes ACTIVE (R83). -/
def State.stayOn (s : State) : State :=
  { s with
    membership :=
      { s.membership with
        state := if s.membership.state = .flushing then .active else s.membership.state
        leavingFrame := false } }

/-- A participant's mark of frame `frame` (R83, R85, R86, R125, R127, R136): the advance if one is due, the content, the
station's transition, and the content made current. A marked lookahead makes a FLUSHING station LEAVING too (log
entry 32). -/
def State.startNext (frame : FrameNo) (s : State) : State :=
  let advanced := s.epochs.turn.isDue
  let t : State := if advanced then s.advanceEpoch else s
  let content : Content := if advanced then t.chooseRunning frame else t.heldContent
  let marked := if advanced then t.endsPass content else t.membership.leavingFrame
  if t.membership.pendingLeave = some .frameEnd ∨ marked then t.becomeLeaving.makeCurrent content
  else t.stayOn.makeCurrent content

/-! ## The frame's blocks -/

/-- The head code word that a content sends from the mark on (R144). -/
def State.headWordFor (content : Content) (s : State) : Option HeadWord :=
  (s.headPlan content).map fun p => { mode := p.headMode, code := p.headCode, start := s.now }

/-- The minimum frame time of a content: 0 where it applies no plan (R6). -/
def State.minFrameOf (content : Content) (s : State) : Nat := ((s.appliedPlan content).map Plan.minFrameTime).getD 0

/-- The barrier unit at the mark of frame `frame` (R4, R5, R6, R7, R13, R14). -/
def State.barrierAtMark (frame : FrameNo) (content : Content) (gens : Vector Generator 4) (s : State) : Barrier :=
  { s.barrier with
    frameNo := frame
    runFrame := frame
    runEpoch := s.epochs.epoch
    markTick := s.now
    pullDue := true
    holdStart := some s.now
    stallStart := some s.now
    stallReported := false
    windowDone := false
    minTimeDone := s.minFrameOf content == 0
    minTimeDue := if s.minFrameOf content = 0 then none else some (s.now + s.minFrameOf content)
    exposuresDone := s.exposuresFree content
    strobesDone := allSettled gens
    late := false }

/-- The resolver at a participant's mark (R62, R65). -/
def Resolver.atMark (frame : FrameNo) (turn : Bool) (gens : Vector Generator 4) (r : Resolver) : Resolver :=
  { r with turnMark := turn, inUse := grantedLanes gens, inUseFrame := some frame }

/-- The blocks that run a frame take its content (R5, R62, R63, R144, R145, R150). `resolves` is false at the mark that a
JOINING station takes, which leaves the resolver as it stands (R57; log entry 10). -/
def State.runContent (frame : FrameNo) (turn resolves : Bool) (content : Content) (s : State) : State :=
  let gens := s.loadGenerators frame turn content
  { s with
    barrier := s.barrierAtMark frame content gens
    resolver := if resolves then s.resolver.atMark frame turn gens else s.resolver
    sequencer := { schedule := s.scheduleFor content, headWord := s.headWordFor content }
    generators := gens }

/-- What kind of mark begins a frame at a participant (R3). -/
inductive FrameStart where
  /-- The first mark of a JOINING station (R78). -/
  | joining
  /-- The founder's mark (R16). -/
  | founding
  /-- Any mark of a participant. -/
  | next
  deriving DecidableEq, Repr

/-- The number of the frame that a mark begins (R3, R4). -/
def State.frameAtMark (start : FrameStart) (s : State) : FrameNo :=
  match start with
  | .founding => 0
  | .joining | .next => s.barrier.frameNo + 1

/-- The membership controller, cursor and epoch unit at a mark. -/
def State.startFrame (start : FrameStart) (frame : FrameNo) (s : State) : State :=
  match start with
  | .joining => s.startFlush false
  | .founding => s.startFlush true
  | .next => s.startNext frame

/-- The FRAME record of the frame that a mark ends (R158). -/
def State.endedFrameRecords (start : FrameStart) (s : State) : List Record :=
  match start with
  | .next => s.frameRecord false
  | .joining | .founding => []

/-- The JOINED record of the first ACTIVE frame (R83). `after` is the station after its transition. -/
def State.joinedRecords (frame : FrameNo) (s after : State) : List Record :=
  if s.membership.state = .flushing ∧ after.membership.state = .active then
    [{ body := .joined, frame, epoch := after.epochs.epoch }]
  else []

/-- The FOUNDED record (R79). -/
def FrameStart.foundedRecords (start : FrameStart) (epoch : EpochNo) : List Record :=
  match start with
  | .founding => [{ body := .founded, frame := 0, epoch }]
  | .joining | .next => []

/-- The records of a mark, as chains (R164): the FRAME record before JOINED and EPOCH, the others in any order. -/
def State.markRecords (start : FrameStart) (frame : FrameNo) (s after : State) : List (List Record) :=
  [ s.endedFrameRecords start ++ s.joinedRecords frame after ++ s.advanceRecords frame,
    s.leftRecords,
    s.resumedRecords frame after.epochs.epoch,
    start.foundedRecords after.epochs.epoch ]

/-- A mark that begins a frame at this station (R3, R5). -/
def State.beginFrame (start : FrameStart) (s : State) : State :=
  let frame := s.frameAtMark start
  let turn := s.epochs.turn.isDue
  let t := s.startFrame start frame
  let content := t.cursor.current.getD .idle
  let t := (t.setLookahead (t.choose (frame + 1))).runContent frame turn (start != .joining) content
  t.markWindow.logChains (s.markRecords start frame t)

/-! ## The mark and the samples of FRAME -/

/-- A mark is taken: a window still open is closed early first (R24), then the phase decides (R3). -/
def State.takeMark (s : State) : State :=
  let s := { s with barrier := { s.barrier with lows := 0, highs := 0, sampled := true, marked := true } }.closeEarly
  match s.barrier.phase, s.membership.state with
  | .watching, .listening => s.listenMark
  | .watching, .joining => s.beginFrame .joining
  | .watching, .founding => s.beginFrame .founding
  | .released, .flushing | .released, .active | .released, .leaving => s.beginFrame .next
  | _, _ => s

/-- The unit can take a mark: it does not pull FRAME, nor is its pull due (R1, R3). -/
def State.canMark (s : State) : Bool := !s.barrier.pulled && !s.barrier.pullDue

/-- The history is that of a qualified rise but for its second high sample (R2). -/
def Barrier.markReady (b : Barrier) : Bool := b.lows == 2 && b.highs == 1

/-- A high sample at the current tick completes a frame mark (R2): the sample has not been told yet, the history has two low
samples and one high one after them, and the unit can take a mark. -/
def State.risesNow (s : State) : Bool := !s.barrier.sampled && s.barrier.markReady && s.canMark

/-- The tick of the next sample: FRAME is sampled once per tick, so it is the next tick where the current one's sample has
been told (R1; log entry 4). -/
def State.toSample (s : State) : State := if s.barrier.sampled then s.elapse 1 else s

/-- The sample of the current tick, with the other stations leaving FRAME at the given level (R1, R2): a high one that
completes a qualified rise takes the mark, and any other goes into the history when the tick is over. -/
def State.sampleFrame (high : Bool) (s : State) : State :=
  let t := { s with frameIn := high }
  if high ∧ t.risesNow then t.takeMark else { t with barrier := { t.barrier with sampled := true } }

/-- FRAME sampled high, where that completes a qualified rise (R2, R3). On an unqualified one the sample is like any other
high one (log entry 4). -/
def frameMarkEffect (s : State) : State := s.toSample.sampleFrame true

/-- FRAME MARK (R3). -/
def execFrameMark (s : State) : Result := .next (s.onTick frameMarkEffect)

/-- FRAME sampled at a level (R1, R2). While no tick is produced no sample is taken, and the level stands for the first one
to come. -/
def frameLevelChangeEffect (high : Bool) (s : State) : State :=
  if s.ticking then s.toSample.sampleFrame high else { s with frameIn := high }

/-- FRAME LEVEL CHANGE (R2). -/
def execFrameLevelChange (high : Bool) (s : State) : Result := .next (frameLevelChangeEffect high s)

end Sys2Proof.Machine
end

