-- ==== Sys2Proof/Machine/Note.lean ====
section
/-! DEFINITION. What happens on NOTE inside a window (R22, R25 to R36): receiving a slot, sending the own note, reading it
back, and the parting note. -/

namespace Sys2Proof.Machine

/-! ## Receiving -/

/-- The station's own transmission slot: a LISTENING station does not transmit, and hears its own slot like any other
(R34). -/
def State.isOwnSlot (s : State) (slot : Fin 16) : Bool := slot == s.prof.index && s.membership.state != .listening

/-- Sets a slot's outcome, if it still is PENDING (R35). -/
def State.concludeSlot (slot : Fin 16) (o : SlotOutcome) (s : State) : State :=
  if s.outcomeOf slot = .pending then { s with transceiver := s.transceiver.setOutcome slot o } else s

/-- A slot that is being heard: a window is open, the slot is one of its slots and not the own transmission's (R23, R29). -/
def State.hears (s : State) (slot : Fin 16) : Bool := s.transceiver.windowOpen && s.hasSlot slot && !s.isOwnSlot slot

/-- The end of a search span without a start fall (R22). -/
def searchSpanEndEffect (slot : Fin 16) (lineLow : Bool) (s : State) : State :=
  if s.hears slot ∧ s.outcomeOf slot = .pending then
    (s.advanceTo (s.slotStart slot + Config.searchSpanEnd)).concludeSlot slot (if lineLow then .lineLow else .silent)
  else s

/-- SEARCH SPAN END (R22). -/
def execSearchSpanEnd (slot : Fin 16) (lineLow : Bool) (s : State) : Result :=
  .next (s.onTick (searchSpanEndEffect slot lineLow))

/-- The ticks that a reception takes from its start fall (R22, R29): up to the last CRC bit of the note, to the bit that ends
it early, or to the last bit sampled. -/
def receptionTicks (symbols : List (Bool × Bool)) : Nat :=
  let bits := bitsOfSymbols symbols
  let count := byteAt (bytesOfBits bits) 11
  let needed := 8 * (14 + count)
  if 96 ≤ bits.length ∧ 4 < count then 96
  else if 96 ≤ bits.length ∧ needed ≤ bits.length then needed
  else min symbols.length (bits.length + 1)

/-- The bytes that a reception leaves in the receive buffer (R29). -/
def receivedBytes (symbols : List (Bool × Bool)) : List Byte :=
  bytesOfBits (bitsOfSymbols (symbols.take (receptionTicks symbols)))

/-- A valid note from another station, or at a listener one with the own index (R32, R34, R36). -/
def State.takeNote (slot : Fin 16) (n : Note) (s : State) : State :=
  if s.membership.state = .listening ∧ n.index = s.prof.index then s.detach .duplicateIndex []
  else
    let slipped := s.hasNumber && n.frame != s.barrier.frameNo
    (s.concludeSlot slot (if slipped then .slip n else .valid n)).hearNote slipped n

/-- A FOREIGN note goes into the list and the FOREIGN set (R31). -/
def State.takeForeign (slot : Fin 16) (s : State) : State :=
  let t := s.concludeSlot slot .foreign
  { t with transceiver := { t.transceiver with foreignSet := t.transceiver.foreignSet ||| (1#16 <<< slot.val) } }

/-- A reception ends (R29, R30). That its bytes then stay in the receive buffer until another reception ends or a window opens
is the model's choice (log entry 48). -/
def State.takeReception (slot : Fin 16) (bytes : List Byte) (s : State) : State :=
  let s := { s with transceiver := { s.transceiver with buffer := bytes } }
  match classify s.digest slot bytes with
  | .garbage => s.concludeSlot slot .garbage
  | .foreign => s.takeForeign slot
  | .valid n => s.takeNote slot n

/-- A slot whose reception can end now: it has not been concluded, or it is the own slot of a listener, which is NOT_SENT
from its transmission start on and heard all the same (R34; log entry 12). -/
def State.receives (s : State) (slot : Fin 16) : Bool :=
  s.hears slot && (s.outcomeOf slot == .pending || (s.outcomeOf slot == .notSent && slot == s.prof.index))

/-- The tick at which a reception in a slot ends, its bits timed from the start fall (R22, R29). -/
def State.receptionEnd (s : State) (slot : Fin 16) (r : Reception) : Nat :=
  s.slotStart slot + Config.searchSpanStart + r.fall.val + receptionTicks r.symbols

/-- The reception of a slot ends (R22, R29). -/
def noteCompletionEffect (slot : Fin 16) (r : Reception) (s : State) : State :=
  if s.receives slot then (s.advanceTo (s.receptionEnd slot r)).takeReception slot (receivedBytes r.symbols) else s

/-- NOTE COMPLETION (R29). -/
def execNoteCompletion (slot : Fin 16) (r : Reception) (s : State) : Result :=
  .next (s.onTick (noteCompletionEffect slot r))

/-! ## Sending -/

/-- The kind and sender state of the note that the station state sends, none where it sends none (section 2.3, R25). -/
def State.noteToSend (s : State) : Option (NoteKind × SenderState) :=
  match s.membership.state with
  | .listening => if s.membership.adopted.isSome then some (.join, .joining) else none
  | .flushing => if s.membership.founder then some (.found, .founding) else some (.status, .flushing)
  | .active => some (.status, .active)
  | .leaving => some (.leave, .leaving)
  | .unconfigured | .standby | .founding | .joining | .detached => none

/-- The claims of a plan, lanes ascending (R28, R56). -/
def Plan.claims (p : Plan) : List Claim :=
  (List.finRange 8).filterMap fun lane =>
    (p.records.find? fun r => r.lane == some lane).map fun r => { lane, priority := r.priority }

/-- The claims of the lookahead (R28). -/
def State.lookaheadClaims (s : State) : List Claim :=
  match s.cursor.lookahead with
  | some (.apply e) => ((s.plan? e).map Plan.claims).getD []
  | some (.settle _) | some .idle | some .parked | some .abstain | some .leave | some (.flush _) | none => []

/-- A note catches up (R134). -/
def State.catchesUp (s : State) : Bool := s.epochs.turn == .catchingUp

/-- The claims a note of this kind carries (R28, R137). -/
def State.claimsFor (kind : NoteKind) (s : State) : List Claim :=
  match kind with
  | .status | .found => if s.catchesUp then [] else s.lookaheadClaims
  | .join | .leave => []

/-- The transmit image (R26, R134). JOIN and LEAVE notes carry both flags clear (R76, R87). -/
def State.transmitImage (kind : NoteKind) (sender : SenderState) (s : State) : Note :=
  let flagged := kind == .status || kind == .found
  { index := s.prof.index, kind, sender, ready := flagged && s.epochs.ready.isSome, catchup := flagged && s.catchesUp
    frame := s.barrier.frameNo, epoch := s.epochs.epoch, digest := s.digest, claims := s.claimsFor kind }

/-- A listener that sends its JOIN note becomes JOINING (R25, R76). -/
def State.becomeJoining (s : State) : State :=
  if s.membership.state = .listening then
    { s with membership := { s.membership with state := .joining, adopted := none } }
  else s

/-- A transmission begins with the given image. -/
def State.transmit (note : Note) (judged : Bool) (s : State) : State :=
  { s with transceiver := { s.transceiver with image := some note, sending := some { note, start := s.now, judged } } }

/-- The own slot has passed (R25). -/
def State.passOwnSlot (s : State) : State := { s with transceiver := { s.transceiver with ownPassed := true } }

/-- The transmission start of the own slot (R25). -/
def ownTransmissionStartEffect (s : State) : State :=
  if s.transceiver.windowOpen ∧ s.transceiver.ownPassed = false then
    let s := (s.advanceTo s.ownStartTick).passOwnSlot
    match s.noteToSend with
    | some (kind, sender) => s.becomeJoining.transmit (s.transmitImage kind sender) true
    | none => s.concludeSlot s.prof.index .notSent
  else s

/-- OWN TRANSMISSION START (R25). -/
def execOwnTransmissionStart (s : State) : Result := .next (s.onTick ownTransmissionStartEffect)

/-- The ticks that a note takes on the line (R21, R29). -/
def Note.ticks (n : Note) : Nat := 8 * (14 + n.claims.length)

/-- A released half of a bit was sampled low (R33): a 1 is released in its first half, a 0 in its second (R21). -/
def halfMismatch (bit : Bool) (level : Bool × Bool) : Bool := !(if bit then level.1 else level.2)

/-- A readback mismatch in a note, from the levels sampled in its bits one by one (R33). -/
def Note.mismatches (n : Note) (levels : List (Bool × Bool)) : Bool :=
  ((n.encode.flatMap bitsOfByte).zip levels).any fun p => halfMismatch p.1 p.2

/-- The readback of a transmission: any mismatch is recorded (R33). -/
def Transmission.readBack (levels : List (Bool × Bool)) (t : Transmission) : Transmission :=
  { t with mismatch := t.mismatch || t.note.mismatches levels }

/-- The own note has completed and its readback is judged (R33, R134). -/
def State.judgeReadback (t : Transmission) (s : State) : State :=
  if t.mismatch then (s.concludeSlot s.prof.index .ownMismatch).detach .duplicateIndex []
  else
    let s := s.concludeSlot s.prof.index (.ownOk t.note)
    { s with epochs := { s.epochs with announced := s.epochs.announced || (t.note.ready && !t.note.catchup) } }

/-- A note on which no judgement is made has completed (R27): after a parting note the window timer stops, unless a mark has
opened a window meanwhile. That the transmit image then keeps the note until a window opens is the model's choice (log
entry 49). -/
def State.endUnjudged (s : State) : State :=
  if s.transceiver.windowOpen then s else { s with transceiver := { s.transceiver with windowStart := none } }

/-- The own note completes (R33). No judgement is made on a parting note, nor on one that LEAVE(IMMEDIATE) found on the
line (R27). -/
def ownNoteCompletionEffect (levels : List (Bool × Bool)) (s : State) : State :=
  match s.transceiver.sending with
  | some t =>
    let s := s.advanceTo (t.start + t.note.ticks)
    let s := { s with transceiver := { s.transceiver with sending := none } }
    if t.judged then s.judgeReadback (t.readBack levels) else s.endUnjudged
  | none => s

/-- OWN NOTE COMPLETION (R33). -/
def execOwnNoteCompletion (levels : List (Bool × Bool)) (s : State) : Result :=
  .next (s.onTick (ownNoteCompletionEffect levels))

/-- The pending parting note goes out at the own transmission start; the window timer runs on to its end (R27). -/
def partingNoteSendEffect (s : State) : State :=
  match s.transceiver.parting, s.transceiver.windowStart with
  | some note, some _ =>
    let s := (s.advanceTo s.ownStartTick).transmit note false
    { s with transceiver := { s.transceiver with parting := none } }
  | some _, none | none, _ => s

/-- PARTING NOTE SEND (R27). -/
def execPartingNoteSend (s : State) : Result := .next (s.onTick partingNoteSendEffect)

end Sys2Proof.Machine
end

