-- ==== Sys2Proof/Machine/Membership.lean ====
section
/-! DEFINITION. The membership controller's commands: JOIN, the three LEAVE modes, RESTART and CLEAR FAULT (R73, R84 to R89,
R93, R94). -/

namespace Sys2Proof.Machine

/-! ## JOIN (R73) -/

/-- The conditions on a start entry that JOIN and STAGE share, in their order (R73, R130): the result of the first that
fails, or the entry. -/
def State.startEntry (start : Byte) (s : State) : Except ResultCode (Fin 64) :=
  match entryIndex start with
  | none => .error .range
  | some entry =>
    if s.verifier ≠ .pass then .error .unverified
    else if (s.plan? entry).isNone then .error .range
    else .ok entry

/-- The station becomes LISTENING (R73). The roster and the resolver are empty, and a pending parting note stands. -/
def State.listen (entry : Fin 64) (s : State) : State :=
  { s with
    membership := { state := .listening, joinSegment := some entry }
    barrier := { s.barrier with phase := .watching, stallStart := some s.now } }

/-- JOIN at its tick (R73). -/
def joinAction (start : Byte) (s : State) : State :=
  if s.membership.state ≠ .standby then s.reply .state
  else if s.timebase.lock ≠ .locked then s.reply .state
  else
    match s.startEntry start with
    | .error code => s.reply code
    | .ok entry => (s.listen entry).reply .accepted

/-- JOIN (R73). -/
def execJoin (start : Byte) (s : State) : Result := .next (s.handOver (.join start) (joinAction start))

/-! ## LEAVE -/

/-- The own slot of the current window has passed (R25). With no window open there is no slot left to pass (log
entry 18). -/
def State.slotPassed (s : State) : Bool := s.transceiver.ownPassed || !s.transceiver.windowOpen

/-- Sets the pending leave mode, with the leaving-frame marker judged on the lookahead held (R85, R86, R127), in FLUSHING as
in ACTIVE (log entry 32). -/
def State.pendLeave (mode : PendingLeave) (s : State) : State :=
  { s with membership := { s.membership with pendingLeave := some mode } }.judgeMarker

/-- LEAVE(FRAME_END) as taken in FLUSHING or ACTIVE (R85). -/
def State.leaveAtFrameEnd (s : State) : State :=
  if s.slotPassed then s.pendLeave .frameEnd else s.becomeLeaving.setLookahead .leave

/-- LEAVE(SEGMENT_END) as taken in FLUSHING or ACTIVE with no leave pending (R86). -/
def State.leaveAtSegmentEnd (s : State) : State :=
  if s.membership.state = .active ∧ (s.cursor.parked ∨ s.cursor.lastRepetition) then s.leaveAtFrameEnd
  else s.pendLeave .segmentEnd

/-- A LEAVE of any mode in LISTENING, JOINING or FOUNDING (R89): a JOIN note in progress is cut (R27). -/
def State.leaveEarly (s : State) : State :=
  let s :=
    if s.membership.state = .joining then { s with transceiver := { s.transceiver with sending := none } } else s
  s.enterStandby none []

/-- LEAVE with mode FRAME_END at its tick (R84, R85). -/
def leaveFrameEndAction (s : State) : State :=
  match s.membership.state with
  | .unconfigured | .standby | .detached | .leaving => s.reply .state
  | .listening | .founding | .joining => s.leaveEarly.reply .accepted
  | .flushing | .active =>
    match s.membership.pendingLeave with
    | some .frameEnd => s.reply .accepted
    | some .segmentEnd | none => s.leaveAtFrameEnd.reply .accepted

/-- LEAVE FRAME END (R85). -/
def execLeaveFrameEnd (s : State) : Result := .next (s.handOver .leaveFrameEnd leaveFrameEndAction)

/-- LEAVE with mode SEGMENT_END at its tick (R84, R86). -/
def leaveSegmentEndAction (s : State) : State :=
  match s.membership.state with
  | .unconfigured | .standby | .detached | .leaving => s.reply .state
  | .listening | .founding | .joining => s.leaveEarly.reply .accepted
  | .flushing | .active =>
    match s.membership.pendingLeave with
    | some .frameEnd => s.reply .state
    | some .segmentEnd => s.reply .accepted
    | none => s.leaveAtSegmentEnd.reply .accepted

/-- LEAVE SEGMENT END (R86). -/
def execLeaveSegmentEnd (s : State) : Result := .next (s.handOver .leaveSegmentEnd leaveSegmentEndAction)

/-- The parting note (R27). -/
def State.partingNote (s : State) : Note :=
  { index := s.prof.index, kind := .leave, sender := .leaving, ready := false, catchup := false
    frame := s.barrier.frameNo, epoch := s.epochs.epoch, digest := s.digest, claims := [] }

/-- The transceiver at LEAVE(IMMEDIATE) (R27): the window is given up, a note in progress goes out unjudged, and where the own
slot has not passed a parting note is left for it. The rule empties the receipt list alone; that the receive buffer is emptied
with it and the transmit image stays is the model's choice (log entry 47). -/
def State.departTransceiver (s : State) : Transceiver :=
  let parts := !s.slotPassed
  { s.transceiver with
    windowOpen := false
    windowStart := if parts then s.transceiver.windowStart else none
    parting := if parts then some s.partingNote else none
    sending := s.transceiver.sending.map fun t => { t with judged := false }
    buffer := []
    receipt := Vector.replicate 16 .pending
    foreignSet := 0
    closedEarly := false }

/-- The station is LEAVING at once, with its parting note prepared (R88). -/
def State.departNow (s : State) : State :=
  { s with transceiver := s.departTransceiver }.becomeLeaving.setLookahead .leave

/-- The frame that the station holds open drains (R11, R154). -/
def State.drain (s : State) : State :=
  let s := s.stopSequencer.mapGenerators Generator.leaveCut
  { s with barrier := { s.barrier with phase := .draining } }.finishDrain

/-- LEAVE(IMMEDIATE) as taken in FLUSHING, ACTIVE or LEAVING (R11, R88). In the tick of a mark, before the pull, the frame
is given up at the command as at a RELEASED station (R88; log entry 9); its FRAME record then follows all records of that
mark (log entry 43). -/
def State.leaveAtOnce (s : State) : State :=
  if s.barrier.phase = .draining then s
  else if s.barrier.phase = .holding then s.departNow.drain
  else s.departNow.enterStandby (some true) []

/-- LEAVE with mode IMMEDIATE at its tick (R84, R88). -/
def leaveImmediateAction (s : State) : State :=
  match s.membership.state with
  | .unconfigured | .standby | .detached => s.reply .state
  | .listening | .founding | .joining => s.leaveEarly.reply .accepted
  | .flushing | .active | .leaving => s.leaveAtOnce.reply .accepted

/-- LEAVE IMMEDIATE (R88). -/
def execLeaveImmediate (s : State) : Result := .next (s.handOver .leaveImmediate leaveImmediateAction)

/-! ## RESTART and CLEAR FAULT -/

/-- The state that RESTART leads to (R94). -/
def State.restartTarget (s : State) : StationState := if s.profile.isSome then .standby else .unconfigured

/-- A walk in progress is abandoned (R120). -/
def VerifyStatus.abandon : VerifyStatus → VerifyStatus
  | .running _ => .idle none
  | .idle e => .idle e
  | .pass => .pass
  | .fail e c => .fail e c

/-- The records of RESTART (R94): a participant's FRAME record with TRUNCATED, then RESTART. In the tick of a mark they follow
the records of that mark (log entry 43). -/
def State.restartRecords (s : State) : List Record :=
  (if s.membership.state.participant then s.cutGenerators.frameRecord true else []) ++ [s.record .restart]

/-- RESTART at its tick (R94). -/
def restartAction (s : State) : State :=
  (({ s with verifier := s.verifier.abandon }.clearRig s.restartTarget none false).logChains [s.restartRecords]).reply
    .accepted

/-- RESTART (R94). -/
def execRestart (s : State) : Result := .next (s.handOver .restart restartAction)

/-- CLEAR FAULT at its tick (R93). -/
def clearFaultAction (s : State) : State :=
  if s.membership.state = .detached then
    { s with membership := { s.membership with state := .standby, fault := none } }.reply .accepted
  else s.reply .state

/-- CLEAR FAULT (R93). -/
def execClearFault (s : State) : Result := .next (s.handOver .clearFault clearFaultAction)

end Sys2Proof.Machine
end

