-- ==== Sys2Proof/Machine/Epochs.lean ====
section
/-! DEFINITION. The epoch unit's commands: STAGE, UNSTAGE, READY and UNREADY (R130 to R133). -/

namespace Sys2Proof.Machine

/-- The states in which STAGE is taken (R130). -/
def StationState.stages : StationState → Bool
  | .standby | .listening | .founding | .joining | .flushing | .active => true
  | .unconfigured | .leaving | .detached => false

/-- STAGE at its tick (R130). -/
def stageAction (start : Byte) (s : State) : State :=
  if s.membership.state.stages = false ∨ s.membership.pendingLeave.isSome ∨ s.epochs.ready.isSome then s.reply .state
  else
    match s.startEntry start with
    | .error code => s.reply code
    | .ok entry => { s with epochs := { s.epochs with staged := some entry } }.reply .accepted

/-- STAGE (R130). -/
def execStage (start : Byte) (s : State) : Result := .next (s.handOver (.stage start) (stageAction start))

/-- The states in which no command of readiness is taken (R131, R133). -/
def StationState.outOfService : StationState → Bool
  | .unconfigured | .detached => true
  | .standby | .listening | .founding | .joining | .flushing | .active | .leaving => false

/-- UNSTAGE at its tick (R131). -/
def unstageAction (s : State) : State :=
  if s.membership.state.outOfService ∨ s.epochs.ready.isSome then s.reply .state
  else { s with epochs := { s.epochs with staged := none } }.reply .accepted

/-- UNSTAGE (R131). -/
def execUnstage (s : State) : Result := .next (s.handOver .unstage unstageAction)

/-- The checks of READY(mode) after the mode's own, as the table of R132 gives them: the verify status is none of them,
although a sentence of R142 says otherwise (log entry 36). -/
def State.mayReady (mode : ReadyMode) (s : State) : Bool :=
  s.membership.state == .active && s.membership.pendingLeave.isNone
    && (s.epochs.ready.isNone || s.epochs.ready == some mode)
    && (mode == .keep || s.epochs.staged.isSome)

/-- READY(mode) at its tick (R132). With the flag already set in the same mode it changes nothing, which setting the mode
again does. -/
def readyAction (mode : ReadyMode) (s : State) : State :=
  if s.mayReady mode then { s with epochs := { s.epochs with ready := some mode } }.reply .accepted else s.reply .state

/-- READY with mode SWITCH (R132). -/
def execReadySwitch (s : State) : Result := .next (s.handOver .readySwitch (readyAction .switch))

/-- READY with mode KEEP (R132). -/
def execReadyKeep (s : State) : Result := .next (s.handOver .readyKeep (readyAction .keep))

/-- The own note of the window now open went out, or is going out, carrying READY (R133; log entry 11). -/
def State.readyOut (s : State) : Bool :=
  s.transceiver.windowOpen && s.transceiver.ownPassed && (s.transceiver.image.map Note.ready).getD false

/-- UNREADY at its tick (R133). -/
def unreadyAction (s : State) : State :=
  if s.membership.state.outOfService ∨ s.epochs.turn ≠ .idle then s.reply .state
  else if s.epochs.ready.isNone then s.reply .accepted
  else if s.readyOut then { s with epochs := { s.epochs with deferred := true } }.reply .accepted
  else { s with epochs := { s.epochs with ready := none, deferred := false } }.reply .accepted

/-- UNREADY (R133). -/
def execUnready (s : State) : Result := .next (s.handOver .unready unreadyAction)

end Sys2Proof.Machine
end

