-- ==== Sys2Proof/Machine/Readout.lean ====
section
/-! DEFINITION. The commands that read state (R52, R69, R166, R178) and their images (11.7). -/

namespace Sys2Proof.Machine

/-! ## The reply on MISO (R169, R171) -/

/-- The result byte (R171). -/
def ResultCode.code : ResultCode → Byte
  | .accepted => 0x01
  | .state => 0x02
  | .busy => 0x03
  | .range => 0x04
  | .live => 0x05
  | .unverified => 0x06
  | .empty => 0x07

/-- The bytes that the last transaction delivers after its filler: the result byte, then the data (R169). -/
def Port.replyBytes (p : Port) : List Byte := p.result.toList.map ResultCode.code ++ p.data

/-- The filler bytes ahead of the result: one for an unassigned command byte (R170), otherwise one or more, a matter of timing
(R169; log entry 5). -/
def Port.fillerBytes (timing : Nat) (p : Port) : Nat := if p.oneFiller then 1 else max 1 timing

/-- Byte `i` of MISO after the last argument bit: filler, the reply, and zeros for as long as SCK runs (R169). While CSN is
high, and in a transaction that began before RSTN rose, MISO is high-impedance: none. So it stays, by the model's choice, from
the fall of CSN to the last argument bit (log entry 5). -/
def Port.miso (timing : Nat) (p : Port) (i : Nat) : Option Byte :=
  if p.selected then some ((List.replicate (p.fillerBytes timing) 0 ++ p.replyBytes).getD i 0) else none

/-! ## READ STATUS (R178) -/

/-- The code of a station state (11.7). -/
def StationState.code : StationState → Nat
  | .unconfigured => 0
  | .standby => 1
  | .listening => 2
  | .founding => 3
  | .joining => 4
  | .flushing => 5
  | .active => 6
  | .leaving => 7
  | .detached => 8

/-- The code of the fault cause, 0 for none. -/
def faultCode : Option FaultCause → Nat
  | none => 0
  | some c => c.code

/-- The code of the verify status. -/
def VerifyStatus.code : VerifyStatus → Nat
  | .idle _ => 0
  | .running _ => 1
  | .pass => 2
  | .fail _ _ => 3

/-- The interrupted marker (R112). -/
def VerifyStatus.interrupted : VerifyStatus → Bool
  | .idle (some _) => true
  | .idle none | .running _ | .pass | .fail _ _ => false

/-- The entry reported with the verify status: the failing or the interrupting one (R122). -/
def VerifyStatus.entry : VerifyStatus → Option (Fin 64)
  | .idle e => e
  | .fail e _ => some e
  | .running _ | .pass => none

/-- The failure code reported with the verify status, 0 for none. -/
def VerifyStatus.failure : VerifyStatus → Nat
  | .fail _ c => c.code
  | .idle _ | .running _ | .pass => 0

/-- The code of the lock state. -/
def LockState.code : LockState → Nat
  | .unlocked => 0
  | .settling => 1
  | .locked => 2

/-- The ready flag and mode in their bits. -/
def readyBits : Option ReadyMode → Nat
  | none => 0
  | some .switch => 128
  | some .keep => 128 + 64

/-- The catch-up indication with its late marker, in their bits (R141). -/
def TurnState.bits : TurnState → Nat
  | .idle => 0
  | .catchingUp => 8
  | .advanceDue late => 16 + flagBit 2 late

/-- The 17-byte status image (R178, 11.7). Where a present bit or the ready flag is clear the bits of the entry, the segment or
the mode read zero, as do bits that the table does not name (log entry 31). -/
def State.statusImage (s : State) : List Byte :=
  [byte (s.membership.state.code * 16 + faultCode s.membership.fault),
    byte (s.verifier.code * 64 + flagBit 5 s.verifier.interrupted + s.timebase.lock.code * 8 + flagBit 2 s.attn),
    byte (presentEntry s.verifier.entry), byte s.verifier.failure]
    ++ bytes4 s.barrier.frameNo.toNat ++ bytes2 s.epochs.epoch.toNat
    ++ [byte (readyBits s.epochs.ready + flagBit 5 s.epochs.deferred + s.epochs.turn.bits),
      byte (presentEntry s.epochs.staged), byte s.log.queue.length]
    ++ bytes2 s.log.gap ++ bytes2 s.digest.toNat

/-- READ STATUS at its tick (R178). -/
def readStatusAction (s : State) : State := s.replyWith .accepted s.statusImage

/-- READ STATUS (R178). -/
def execReadStatus (s : State) : Result := .next (s.handOver .readStatus readStatusAction)

/-! ## READ LOG (R166) -/

/-- READ LOG at its tick (R166): a GAP first, then the oldest record. What it took is remembered for a transaction cut short
(R167). -/
def readLogAction (s : State) : State :=
  if 0 < s.log.gap then
    let t := s.replyWith .accepted (gapImage s.barrier.frameNo s.epochs.epoch s.log.gap)
    { t with log := { s.log with gap := 0 }, port := { t.port with logTaken := .gap s.log.gap } }
  else
    match s.log.queue with
    | [] => s.reply .empty
    | r :: rest =>
      let t := s.replyWith .accepted r.encode
      { t with log := { s.log with queue := rest }, port := { t.port with logTaken := .record } }

/-- READ LOG (R166). -/
def execReadLog (s : State) : Result := .next (s.handOver .readLog readLogAction)

/-! ## READ ROSTER (R52) -/

/-- The code of a member state. -/
def MemberState.code : MemberState → Nat
  | .joining => 0
  | .founding => 1
  | .flushing => 2
  | .active => 3
  | .leaving => 4
  | .lost => 5

/-- The code of a pending removal. -/
def Removal.code : Removal → Nat
  | .none => 0
  | .left => 1
  | .lost => 2

/-- The frame number of an optional item. Zeros stand for an absent one, which the manual does not say (log entry 31). -/
def frameBytes (f : Option FrameNo) : List Byte := bytes4 ((f.map BitVec.toNat).getD 0)

/-- The 16-byte roster image of an entry (11.7). Bytes of an absent item and bits that the table does not name read zero
(log entry 31). -/
def Member.image (own : Bool) (m : Member) : List Byte :=
  [byte (flagBit 7 own + flagBit 6 m.expected + m.index.val),
    byte (m.state.code * 32 + flagBit 1 m.ready + flagBit 0 m.catchup)]
    ++ bytes2 m.epoch.toNat
    ++ [byte (flagBit 7 m.lastHeard.isSome + flagBit 6 m.stamp.isSome + m.removal.code * 16 + m.misses)]
    ++ frameBytes m.lastHeard ++ frameBytes (m.stamp.map fun p => p.1)
    ++ bytes2 ((m.stamp.map fun p => p.2.toNat).getD 0) ++ [0]

/-- The roster index an argument names: none above 15, nor at the rig width and above once a profile is in force (R52). -/
def State.rosterIndex (index : Byte) (s : State) : Option (Fin 16) :=
  if 15 < index.toNat ∨ (s.profile.isSome ∧ s.prof.width ≤ index.toNat) then none else some (Fin.ofNat 16 index.toNat)

/-- READ ROSTER at its tick (R52). -/
def readRosterAction (index : Byte) (s : State) : State :=
  match s.rosterIndex index with
  | none => s.reply .range
  | some i =>
    match s.ownEntry, s.roster.entry i with
    | some own, member =>
      if i = s.prof.index then s.replyWith .accepted (own.image true)
      else
        match member with
        | some m => s.replyWith .accepted (m.image false)
        | none => s.reply .empty
    | none, some m => s.replyWith .accepted (m.image false)
    | none, none => s.reply .empty

/-- READ ROSTER (R52). -/
def execReadRoster (index : Byte) (s : State) : Result :=
  .next (s.handOver (.readRoster index) (readRosterAction index))

/-! ## READ GRANTS (R69) -/

/-- The four bytes of one lane (11.7). Where the winner is none the bits of its index and priority read zero, which the
manual does not say (log entry 31). -/
def LaneEntry.image (own : Fin 16) (e : LaneEntry) : List Byte :=
  let claims := flagBit 6 (e.claimants.getLsbD own.val)
  (match e.winner with
    | some (index, priority) => [byte (128 + index.val), byte (128 + claims + priority.val)]
    | none => [0, byte claims])
    ++ bytes2 e.claimants.toNat

/-- The 42-byte grants image (11.7). With no in-use frame its four bytes read zero (log entry 31). -/
def State.grantsImage (t : GrantTable) (s : State) : List Byte :=
  bytes4 t.frame.toNat
    ++ [byte (flagBit 7 t.complete + flagBit 6 s.resolver.turnMark + flagBit 5 s.resolver.inUseFrame.isSome)]
    ++ frameBytes s.resolver.inUseFrame ++ [byte s.resolver.inUse.toNat]
    ++ t.lanes.toList.flatMap (LaneEntry.image s.prof.index)

/-- READ GRANTS at its tick (R69). -/
def readGrantsAction (s : State) : State :=
  match s.resolver.table with
  | some t => s.replyWith .accepted (s.grantsImage t)
  | none => s.reply .empty

/-- READ GRANTS (R69). -/
def execReadGrants (s : State) : Result := .next (s.handOver .readGrants readGrantsAction)

end Sys2Proof.Machine
end

