-- ==== Sys2Proof/WellFormed.lean ====
section
/-! DEFINITION. Which commands are well formed: a transaction's argument has the length its command's entry gives
(section 11.2), and a row that names a special case is that case. The ranges that the part itself checks (an entry index,
a plan's fields, the profile's items) are operands of the command's meaning, not of this check. -/

namespace Sys2Proof

/-- The command bytes that section 11.2 assigns. -/
def assignedCodes : List Byte :=
  [0x10#8, 0x11#8, 0x20#8, 0x21#8, 0x22#8, 0x30#8, 0x31#8, 0x32#8, 0x33#8, 0x40#8, 0x41#8, 0x42#8, 0x43#8, 0x50#8,
    0x51#8, 0x52#8, 0x53#8]

/-- A transaction that R170 refuses with RANGE for its command byte, or R181 for the mode byte of LEAVE or READY. -/
def unassigned (code argument : Byte) : Bool :=
  !assignedCodes.contains code || (code == 0x31#8 && decide (2 < argument.toNat))
    || (code == 0x42#8 && decide (1 < argument.toNat))

/-- The check. Each line is one check of its own. -/
def Instr.wellFormed : Instr → Bool
  | .setProfile image => image.length == 14
  | .writePlan _ image => image.length == 72
  | .unassignedCommand code argument => unassigned code argument
  | .transactionCutShort (.inData n) => decide (n ≤ 73)
  | .noteCompletion _ reception => decide (reception.symbols.length ≤ 144)
  | .ownNoteCompletion levels => decide (levels.length ≤ 144)
  | .transactionCutShort .acrossReset | .transactionCutShort .beforeTaken | .transactionCutShort .inResult => true
  | .profileDone | .readPlan _ | .verify | .verifyWalkConclusion | .join _ | .leaveFrameEnd | .leaveSegmentEnd
  | .leaveImmediate | .restart | .clearFault | .stage _ | .unstage | .readySwitch | .readyKeep | .unready | .readStatus
  | .readLog | .readRoster _ | .readGrants | .powerOnReset | .rstnLow | .frameMark | .participantPull
  | .minFrameTimeElapsed | .holdLimitExpiry | .stallTimerExpiry | .listenTimerExpiry | .foundingPulseEnd
  | .searchSpanEnd _ _ | .ownTransmissionStart | .partingNoteSend | .windowEnd | .hcodeWordSent
  | .exposureStart _ | .exposureEnd | .exposuresEnded | .strobeDelayEnd _ | .strobeOnEnd _ | .strobeOffEnd _
  | .timebaseLoss | .tclkReturn | .settleCountComplete | .frameLevelChange _ | .rstnRelease => true

end Sys2Proof
end

