-- ==== Sys2Proof/Machine/Transactions.lean ====
section
/-! DEFINITION. The bytes of a transaction on MOSI and the command they are (R169, R170, section 11.2). -/

namespace Sys2Proof.Machine

/-- A command that takes one argument byte. -/
def oneByte (make : Byte → Instr) : List Byte → Option Instr
  | [] => none
  | a :: _ => some (make a)

/-- A command whose one argument byte is a mode (R84, R132, R181): a mode not assigned makes it an unassigned command. -/
def modeByte (code : Byte) (modes : List Instr) : List Byte → Option Instr
  | [] => none
  | m :: _ => some ((modes[m.toNat]?).getD (.unassignedCommand code m))

/-- The command that a transaction's bytes on MOSI are, once its last argument bit has been sampled; none before that.
Bytes beyond the arguments are ignored (R169, R170). -/
def commandOf : List Byte → Option Instr
  | [] => none
  | code :: args =>
    match code.toNat with
    | 0x10 => if args.length < 14 then none else some (.setProfile (args.take 14))
    | 0x11 => some .profileDone
    | 0x20 =>
      match args with
      | [] => none
      | index :: image => if image.length < 72 then none else some (.writePlan index (image.take 72))
    | 0x21 => oneByte .readPlan args
    | 0x22 => some .verify
    | 0x30 => oneByte .join args
    | 0x31 => modeByte code [.leaveFrameEnd, .leaveSegmentEnd, .leaveImmediate] args
    | 0x32 => some .restart
    | 0x33 => some .clearFault
    | 0x40 => oneByte .stage args
    | 0x41 => some .unstage
    | 0x42 => modeByte code [.readySwitch, .readyKeep] args
    | 0x43 => some .unready
    | 0x50 => some .readStatus
    | 0x51 => some .readLog
    | 0x52 => oneByte .readRoster args
    | 0x53 => some .readGrants
    | _ => some (.unassignedCommand code (args.headD 0))

/-- The bytes on MOSI that are a command (section 11.2); none for an event. -/
def commandBytes : Instr → Option (List Byte)
  | .setProfile image => some (0x10#8 :: image)
  | .profileDone => some [0x11#8]
  | .writePlan index image => some (0x20#8 :: index :: image)
  | .readPlan index => some [0x21#8, index]
  | .verify => some [0x22#8]
  | .join start => some [0x30#8, start]
  | .leaveFrameEnd => some [0x31#8, 0]
  | .leaveSegmentEnd => some [0x31#8, 1]
  | .leaveImmediate => some [0x31#8, 2]
  | .restart => some [0x32#8]
  | .clearFault => some [0x33#8]
  | .stage start => some [0x40#8, start]
  | .unstage => some [0x41#8]
  | .readySwitch => some [0x42#8, 0]
  | .readyKeep => some [0x42#8, 1]
  | .unready => some [0x43#8]
  | .readStatus => some [0x50#8]
  | .readLog => some [0x51#8]
  | .readRoster index => some [0x52#8, index]
  | .readGrants => some [0x53#8]
  | .unassignedCommand code argument => some [code, argument]
  | .verifyWalkConclusion | .transactionCutShort _ | .powerOnReset | .rstnLow | .frameMark | .participantPull
  | .minFrameTimeElapsed | .holdLimitExpiry | .stallTimerExpiry | .listenTimerExpiry | .foundingPulseEnd
  | .searchSpanEnd _ _ | .noteCompletion _ _ | .ownTransmissionStart | .ownNoteCompletion _ | .partingNoteSend
  | .windowEnd | .hcodeWordSent | .exposureStart _ | .exposureEnd | .exposuresEnded | .strobeDelayEnd _ | .strobeOnEnd _
  | .strobeOffEnd _ | .timebaseLoss | .tclkReturn | .settleCountComplete | .frameLevelChange _ | .rstnRelease => none

end Sys2Proof.Machine
end

