-- ==== Sys2Proof/Machine/Port.lean ====
section
/-! DEFINITION. The profile's commands and what the control port does with transactions that run no command's course:
SET PROFILE, PROFILE DONE, an unassigned command, a transaction cut short (R167, R170, R172, R173, R181). -/

namespace Sys2Proof.Machine

/-- SET PROFILE at its tick (R172). Bytes after the image are ignored (R169). -/
def setProfileAction (image : List Byte) (s : State) : State :=
  if s.membership.state = .unconfigured then { s with store := image.take 14 }.reply .accepted
  else s.reply .state

/-- SET PROFILE (R172). An image that ends early is not taken (R170). -/
def execSetProfile (image : List Byte) (s : State) : Result :=
  .next (s.handOverImage 14 image (.setProfile image) (setProfileAction image))

/-- A profile comes into force (R173 to R176, R72). -/
def State.configure (p : Profile) (s : State) : State :=
  { s with
    profile := some p
    digest := profileDigest s.store
    timebase := { s.timebase with divider := p.divider, lock := .settling, settle := 0 }
    membership := { s.membership with state := .standby } }

/-- PROFILE DONE at its tick (R173). -/
def profileDoneAction (s : State) : State :=
  if s.membership.state = .unconfigured then
    match Profile.decode s.store with
    | some p => (s.configure p).reply .accepted
    | none => s.reply .range
  else s.reply .state

/-- PROFILE DONE (R173). -/
def execProfileDone (s : State) : Result := .next (s.handOver .profileDone profileDoneAction)

/-- An unassigned mode of LEAVE or READY is refused with RANGE at its tick (R170, R181). An assigned byte and mode are not
this command, which then has no effect (log entry 23). -/
def unassignedCommandAction (code argument : Byte) (s : State) : State :=
  if unassigned code argument then s.reply .range else s

/-- A command byte that section 11.2 does not assign is refused after a single filler byte, without a tick and without a
hand-over (R170). Commands that wait belong to earlier transactions, whose CSN has risen. -/
def State.refuseByte (s : State) : State :=
  if s.rstnLow then s
  else { s with port := { (s.reply .range).port with oneFiller := true, waiting := s.port.cutWaiting } }

/-- UNASSIGNED COMMAND (R170): an unassigned byte is refused at once, an unassigned mode at its tick like any argument. -/
def execUnassignedCommand (code argument : Byte) (s : State) : Result :=
  .next
    (if assignedCodes.contains code then
      s.handOver (.unassignedCommand code argument) (unassignedCommandAction code argument)
    else s.refuseByte)

/-- What a READ LOG took is counted as lost when its image is not shifted out whole (R167). -/
def StationLog.loseTaken (taken : LogTaken) (l : StationLog) : StationLog :=
  match taken with
  | .nothing => l
  | .record => l.addGap 1
  | .gap n => l.addGap n

/-- The result and data of the last transaction are lost before any data byte is out (R170): a command that still waits will
be taken without a result, one that was taken stands, with R167 for a READ LOG. -/
def State.loseResult (s : State) : State :=
  { s with log := s.log.loseTaken s.port.logTaken }.noReply

/-- CSN rises after `shifted` data bytes of the last transaction (R170, R167). Where that is all of them, nothing is lost:
the transaction has run its full course. -/
def State.loseData (shifted : Nat) (s : State) : State :=
  if shifted < s.port.data.length then
    { s with
      log := s.log.loseTaken s.port.logTaken
      port := { s.port.rise with data := s.port.data.take shifted, logTaken := .nothing } }
  else { s with port := { s.port.rise with logTaken := .nothing } }

/-- A rise of CSN (R170). The port needs no tick for it. Held in reset the part has no transaction, nor is one that began
before RSTN rose the part's (R179). -/
def transactionCutShortEffect (cut : CutPoint) (s : State) : State :=
  match cut with
  | .acrossReset => s
  | .beforeTaken => s.endEarly
  | .inResult => if s.rstnLow then s else s.loseResult
  | .inData shifted => if s.rstnLow then s else s.loseData shifted

/-- TRANSACTION CUT SHORT (R170). -/
def execTransactionCutShort (cut : CutPoint) (s : State) : Result := .next (transactionCutShortEffect cut s)

end Sys2Proof.Machine
end

