-- ==== Sys2Proof/Machine/Timebase.lean ====
section
/-! DEFINITION. The timebase and the resets (R176, R177, R179): loss and return of TCLK, the end of settling, power-on reset
and the RSTN pin. These events need no tick. -/

namespace Sys2Proof.Machine

/-! ## TCLK -/

/-- The lock state on a loss (R176). -/
def Timebase.unlock (t : Timebase) : Timebase := { t with lock := .unlocked, settle := 0 }

/-- What a loss does to a station that holds a profile (R177). In a rig state the station detaches at once, and the detach's
records wait for the first tick after TCLK returns. -/
def State.loseTimebase (s : State) : State :=
  if s.membership.state.inRig then
    let records := s.detachRecords .timebaseLost
    let t := s.clearRig .detached (some .timebaseLost) false
    { t with timebase := { t.timebase.unlock with deferredRecords := t.timebase.deferredRecords ++ records } }
  else if s.membership.state = .unconfigured then s
  else { s with timebase := s.timebase.unlock }

/-- The current tick is the last one before a loss: its sample of FRAME goes into the history with the level that stands now,
whatever becomes of the line until ticks come again (R1, R2; log entry 4). -/
def State.closeTick (s : State) : State := { s with barrier := s.barrier.elapse s.frameIn 1 }

/-- No edge of TCLK for 5 microseconds (R177). A part held in reset only stops ticking. -/
def timebaseLossEffect (s : State) : State :=
  if s.timebase.lost then s
  else
    let s := { s with timebase := { s.timebase with lost := true } }
    if s.rstnLow then s else s.closeTick.loseTimebase

/-- TIMEBASE LOSS (R177). -/
def execTimebaseLoss (s : State) : Result := .next (timebaseLossEffect s)

/-- The action of a control port command at its tick; an event has none. -/
def portAction : Instr → State → State
  | .setProfile image => setProfileAction image
  | .profileDone => profileDoneAction
  | .writePlan index image => writePlanAction index image
  | .readPlan index => readPlanAction index
  | .verify => verifyAction
  | .join start => joinAction start
  | .leaveFrameEnd => leaveFrameEndAction
  | .leaveSegmentEnd => leaveSegmentEndAction
  | .leaveImmediate => leaveImmediateAction
  | .restart => restartAction
  | .clearFault => clearFaultAction
  | .stage start => stageAction start
  | .unstage => unstageAction
  | .readySwitch => readyAction .switch
  | .readyKeep => readyAction .keep
  | .unready => unreadyAction
  | .readStatus => readStatusAction
  | .readLog => readLogAction
  | .readRoster index => readRosterAction index
  | .readGrants => readGrantsAction
  | .unassignedCommand code argument => unassignedCommandAction code argument
  | .verifyWalkConclusion | .transactionCutShort _ | .powerOnReset | .rstnLow | .frameMark | .participantPull
  | .minFrameTimeElapsed | .holdLimitExpiry | .stallTimerExpiry | .listenTimerExpiry | .foundingPulseEnd
  | .searchSpanEnd _ _ | .noteCompletion _ _ | .ownTransmissionStart | .ownNoteCompletion _ | .partingNoteSend
  | .windowEnd | .hcodeWordSent | .exposureStart _ | .exposureEnd | .exposuresEnded | .strobeDelayEnd _ | .strobeOnEnd _
  | .strobeOffEnd _ | .timebaseLoss | .tclkReturn | .settleCountComplete | .frameLevelChange _ | .rstnRelease => id

/-- A command that waited is taken (R177). With `cut` its transaction is over and its result lost (R170), and the port stays
with the transaction it is in. -/
def State.takeWaiting (c : Instr) (cut : Bool) (s : State) : State :=
  let t := portAction c s
  if cut then { t with log := t.log.loseTaken t.port.logTaken, port := s.port } else t

/-- One thing that happens at the first tick after TCLK returns. -/
inductive Returning where
  /-- A record of the detach is appended (R177). -/
  | record (r : Record)
  /-- A command that waited is handed over (R169). -/
  | command (c : Instr) (cut : Bool)
  deriving DecidableEq, Repr

/-- Carries out one of them. -/
def State.carryOut (s : State) : Returning → State
  | .record r => { s with log := s.log.append r }
  | .command c cut => s.takeWaiting c cut

/-- The record is a FRAME record. -/
def Record.isFrame (r : Record) : Bool := r.body.code == 0x01

/-- A command cannot come before records that still wait: RESTART, whose own record comes after a FRAME record of the same
tick (R164). -/
def awaitsRecords (c : Instr) (rs : List Record) : Bool := c == .restart && rs.any Record.isFrame

/-- Merges the waiting records and the waiting commands, each kept in its own order, by free choices from number `k` on (log
entry 6); only a RESTART lets a FRAME record go ahead (R164). `fuel` is the number of both. -/
def mergeReturning : Nat → Nat → List Record → List (Instr × Bool) → List Returning
  | fuel + 1, k, r :: rs, w :: ws =>
    if Config.freeChoice k || awaitsRecords w.1 (r :: rs) then
      .record r :: mergeReturning fuel (k + 1) rs (w :: ws)
    else .command w.1 w.2 :: mergeReturning fuel (k + 1) (r :: rs) ws
  | _, _, rs, ws => rs.map .record ++ ws.map fun w => .command w.1 w.2

/-- What waited for a tick: the deferred records and the commands, in the order in which they come (log entry 6). -/
def State.returning (s : State) : List Returning :=
  mergeReturning (s.timebase.deferredRecords.length + s.port.waiting.length) s.choices s.timebase.deferredRecords
    s.port.waiting

/-- The timebase at the first edge after a loss (R176). -/
def Timebase.resume (configured : Bool) (t : Timebase) : Timebase :=
  if configured then { t with lost := false, lock := .settling, settle := 0, deferredRecords := [] }
  else { t with lost := false, deferredRecords := [] }

/-- The state that the first edges find, with nothing left waiting for a tick (R176). -/
def State.edgesReturn (s : State) : State :=
  { s with
    timebase := s.timebase.resume s.profile.isSome
    port := { s.port with waiting := [] }
    choices := s.choices + s.returning.length }

/-- The first tick after a loss: the clock and the settle count follow it. Its own sample of FRAME is the next to come, and
the one of the last tick went into the history at the loss (R2, R176). -/
def State.firstTick (s : State) : State := { s.elapse 1 with barrier := s.barrier }

/-- TCLK gives edges again: the first edges and the first tick, at which what waited for it happens (R114, R176, R177; log
entry 6). A part held in reset gives no tick (R179). -/
def tclkReturnEffect (s : State) : State :=
  if s.timebase.lost then
    if s.rstnLow then s.edgesReturn else s.returning.foldl State.carryOut s.edgesReturn.firstTick
  else s

/-- TCLK RETURN (R176). -/
def execTclkReturn (s : State) : Result := .next (tclkReturnEffect s)

/-- The settle count reaches 2,000 (R176). -/
def settleCountCompleteEffect (s : State) : State :=
  if s.timebase.lock = .settling then
    let s := s.elapse (Config.settleTicks - s.timebase.settle)
    { s with timebase := { s.timebase with lock := .locked } }
  else s

/-- SETTLE COUNT COMPLETE (R176). -/
def execSettleCountComplete (s : State) : Result := .next (s.onTick settleCountCompleteEffect)

/-! ## Resets -/

/-- Every block in its reset condition (R179). The queue and the count of free choices are the model's own, and the levels
of RSTN and of FRAME are the outside's: they stay (log entry 7). -/
def State.hardReset (s : State) : State :=
  { State.reset with pending := s.pending, choices := s.choices, rstnLow := s.rstnLow, frameIn := s.frameIn }

/-- POWER-ON RESET (R179). -/
def execPowerOnReset (s : State) : Result := .next s.hardReset

/-- A low level on RSTN resets the part and holds it (R179). -/
def rstnLowEffect (s : State) : State := { s.hardReset with rstnLow := true }

/-- RSTN LOW (R179). -/
def execRstnLow (s : State) : Result := .next (rstnLowEffect s)

/-- RSTN rises: commands are taken again, from the first full transaction whose CSN falls from now on (R179). One that is
under way ends with TRANSACTION_CUT_SHORT across the reset. -/
def rstnReleaseEffect (s : State) : State := { s with rstnLow := false }

/-- RSTN RELEASE (R179). -/
def execRstnRelease (s : State) : Result := .next (rstnReleaseEffect s)

end Sys2Proof.Machine
end

