-- ==== Sys2Proof/Machine/Dispatch.lean ====
section
/-! DEFINITION. One arm per command, each one direct call of its meaning. -/

namespace Sys2Proof.Machine

def exec (i : Instr) (s : State) : Host.Outcome State Fault Refusal :=
  match i with
  | .setProfile image => Sys2Proof.Machine.execSetProfile image s
  | .profileDone => Sys2Proof.Machine.execProfileDone s
  | .writePlan index image => Sys2Proof.Machine.execWritePlan index image s
  | .readPlan index => Sys2Proof.Machine.execReadPlan index s
  | .verify => Sys2Proof.Machine.execVerify s
  | .verifyWalkConclusion => Sys2Proof.Machine.execVerifyWalkConclusion s
  | .join start => Sys2Proof.Machine.execJoin start s
  | .leaveFrameEnd => Sys2Proof.Machine.execLeaveFrameEnd s
  | .leaveSegmentEnd => Sys2Proof.Machine.execLeaveSegmentEnd s
  | .leaveImmediate => Sys2Proof.Machine.execLeaveImmediate s
  | .restart => Sys2Proof.Machine.execRestart s
  | .clearFault => Sys2Proof.Machine.execClearFault s
  | .stage start => Sys2Proof.Machine.execStage start s
  | .unstage => Sys2Proof.Machine.execUnstage s
  | .readySwitch => Sys2Proof.Machine.execReadySwitch s
  | .readyKeep => Sys2Proof.Machine.execReadyKeep s
  | .unready => Sys2Proof.Machine.execUnready s
  | .readStatus => Sys2Proof.Machine.execReadStatus s
  | .readLog => Sys2Proof.Machine.execReadLog s
  | .readRoster index => Sys2Proof.Machine.execReadRoster index s
  | .readGrants => Sys2Proof.Machine.execReadGrants s
  | .unassignedCommand code argument => Sys2Proof.Machine.execUnassignedCommand code argument s
  | .transactionCutShort cut => Sys2Proof.Machine.execTransactionCutShort cut s
  | .powerOnReset => Sys2Proof.Machine.execPowerOnReset s
  | .rstnLow => Sys2Proof.Machine.execRstnLow s
  | .frameMark => Sys2Proof.Machine.execFrameMark s
  | .participantPull => Sys2Proof.Machine.execParticipantPull s
  | .minFrameTimeElapsed => Sys2Proof.Machine.execMinFrameTimeElapsed s
  | .holdLimitExpiry => Sys2Proof.Machine.execHoldLimitExpiry s
  | .stallTimerExpiry => Sys2Proof.Machine.execStallTimerExpiry s
  | .listenTimerExpiry => Sys2Proof.Machine.execListenTimerExpiry s
  | .foundingPulseEnd => Sys2Proof.Machine.execFoundingPulseEnd s
  | .searchSpanEnd slot lineLow => Sys2Proof.Machine.execSearchSpanEnd slot lineLow s
  | .noteCompletion slot reception => Sys2Proof.Machine.execNoteCompletion slot reception s
  | .ownTransmissionStart => Sys2Proof.Machine.execOwnTransmissionStart s
  | .ownNoteCompletion levels => Sys2Proof.Machine.execOwnNoteCompletion levels s
  | .partingNoteSend => Sys2Proof.Machine.execPartingNoteSend s
  | .windowEnd => Sys2Proof.Machine.execWindowEnd s
  | .hcodeWordSent => Sys2Proof.Machine.execHcodeWordSent s
  | .exposureStart hrdy => Sys2Proof.Machine.execExposureStart hrdy s
  | .exposureEnd => Sys2Proof.Machine.execExposureEnd s
  | .exposuresEnded => Sys2Proof.Machine.execExposuresEnded s
  | .strobeDelayEnd channel => Sys2Proof.Machine.execStrobeDelayEnd channel s
  | .strobeOnEnd channel => Sys2Proof.Machine.execStrobeOnEnd channel s
  | .strobeOffEnd channel => Sys2Proof.Machine.execStrobeOffEnd channel s
  | .timebaseLoss => Sys2Proof.Machine.execTimebaseLoss s
  | .tclkReturn => Sys2Proof.Machine.execTclkReturn s
  | .settleCountComplete => Sys2Proof.Machine.execSettleCountComplete s
  | .frameLevelChange high => Sys2Proof.Machine.execFrameLevelChange high s
  | .rstnRelease => Sys2Proof.Machine.execRstnRelease s

end Sys2Proof.Machine
end

