-- ==== Sys2Proof/Machine/Tick.lean ====
section
/-! DEFINITION. What the block does on an empty queue (log entry 3): the events of its own timers that have become due are put
into the queue, those of one tick in a free order; where none is due, a mark that the sample of FRAME completes; otherwise
the clock moves by one. Events that carry a sample or a reception (NOTE, HRDY, the readback) are the sender's. -/

namespace Sys2Proof.Machine

/-- An event, if its due tick has come. -/
def State.dueAt (due : Option Nat) (event : Instr) (s : State) : List Instr :=
  match due with
  | some t => if t ≤ s.now then [event] else []
  | none => []

/-- The due tick of a timer that runs up to a limit. -/
def timerDue (start : Option Nat) (limit : Nat) : Option Nat := start.map fun t => t + limit

/-- The due events of the barrier unit (R5, R6, R9, R13, R15). -/
def State.dueBarrier (s : State) : List Instr :=
  let b := s.barrier
  s.dueAt (if b.pullDue then some (b.markTick + 1) else none) .participantPull
    ++ s.dueAt (if s.frameOpen then b.minTimeDue else none) .minFrameTimeElapsed
    ++ s.dueAt (if b.phase = .holding ∨ b.phase = .draining then timerDue b.holdStart s.holdTicks else none) .holdLimitExpiry
    ++ s.dueAt (if s.stallable then timerDue b.stallStart s.stallTicks else none) .stallTimerExpiry
    ++ s.dueAt (if s.membership.state = .listening ∧ b.marked = false then timerDue b.stallStart s.stallTicks else none) .listenTimerExpiry
    ++ s.dueAt (if b.phase = .pulsing then timerDue b.pulseStart s.prof.slotTime else none) .foundingPulseEnd

/-- The due events of the note transceiver (R23, R25, R27). A note on which no judgement is made completes by itself. -/
def State.dueNotes (s : State) : List Instr :=
  let x := s.transceiver
  s.dueAt (if x.windowOpen && !x.ownPassed then some s.ownStartTick else none) .ownTransmissionStart
    ++ s.dueAt (if x.parting.isSome && x.windowStart.isSome then some s.ownStartTick else none) .partingNoteSend
    ++ s.dueAt
        (match x.sending with
          | some t => if t.judged then none else some (t.start + t.note.ticks)
          | none => none)
        (.ownNoteCompletion [])
    ++ s.dueAt (if x.windowOpen then some s.windowEndTick else none) .windowEnd

/-- The due events of the head lines (R144, R146). -/
def State.dueHead (s : State) : List Instr :=
  s.dueAt (s.sequencer.headWord.map fun w => w.start + Config.headWordTicks) .hcodeWordSent
    ++ s.dueAt (s.runningExposure.map fun e => e.2) .exposureEnd

/-- The due event of one strobe generator (R151). -/
def State.dueStrobe (channel : Fin 4) (s : State) : List Instr :=
  s.dueAt (s.phaseEndOf channel .delay) (.strobeDelayEnd channel)
    ++ s.dueAt (s.phaseEndOf channel .on) (.strobeOnEnd channel)
    ++ s.dueAt (s.phaseEndOf channel .off) (.strobeOffEnd channel)

/-- The due events of the verifier and the timebase (R118, R176). -/
def State.dueOthers (s : State) : List Instr :=
  s.dueAt s.walkEnd .verifyWalkConclusion
    ++ (if s.timebase.lock = .settling ∧ s.timebase.settle = Config.settleTicks then [.settleCountComplete] else [])

/-- Every event that has become due. -/
def State.dueEvents (s : State) : List Instr :=
  s.dueBarrier ++ s.dueNotes ++ s.dueHead ++ s.dueStrobe 0 ++ s.dueStrobe 1 ++ s.dueStrobe 2 ++ s.dueStrobe 3 ++ s.dueOthers

/-- Puts events into the queue in a free order. -/
def State.enqueue (events : List Instr) (s : State) : State :=
  let chains := events.map fun e => [e]
  { s with pending := s.pending ++ mergeAll s.choices chains, choices := s.choices + mergeChoices chains }

/-- The due events with the mark taken before the listen expiry of its tick (R15): the listen expiry waits for the others, and
when they are over the mark comes. -/
def markFirst (due : List Instr) : List Instr :=
  let rest := due.filter fun e => e != .listenTimerExpiry
  if rest.isEmpty then [.frameMark] else rest

/-- What is due at the current tick: the timers' events, and when they are over the mark that a high sample of this tick
completes (R1, R2). Of that mark and a listen expiry either may come first (R15). -/
def State.dueNow (s : State) : List Instr :=
  let due := s.dueEvents
  let rises := s.frameIn && s.risesNow
  if due.isEmpty then (if rises then [.frameMark] else [])
  else if rises && due.contains .listenTimerExpiry && Config.freeChoice s.choices then markFirst due
  else due

/-- The block on an empty queue: what is due enters the queue, and once nothing is, the next tick comes. No tick comes while
TCLK gives no edges or the part is held in reset, and the block then idles. -/
def tick (s : State) : State :=
  if s.ticking = false then s
  else if s.dueNow.isEmpty then s.elapse 1
  else { s with choices := s.choices + 1 }.enqueue s.dueNow

end Sys2Proof.Machine
end

