-- ==== Sys2Proof/Safety.lean ====
section
/-! DEFINITION. What it means for a state of the part to be in order: the relations between the blocks that the manual's
tables give, the lawful use of light lanes, and the canonical forms of the log and the roster. Each is a Bool. -/

namespace Sys2Proof.Machine

/-! ## The blocks agree -/

/-- The phases in which the station pulls FRAME (section 1.2). -/
def Phase.pulls : Phase → Bool
  | .pulsing | .holding | .draining => true
  | .dormant | .watching | .released => false

/-- The barrier phase goes with the station state, by the table of section 1.2. In the tick of a mark, with the pull still to
come, a participant stands where the mark found it. -/
def State.phaseFits (s : State) : Bool :=
  match s.barrier.phase with
  | .dormant => !s.membership.state.inRig && !s.barrier.pullDue
  | .watching =>
    if s.barrier.pullDue then s.membership.state.participant
    else s.membership.state == .listening || s.membership.state == .joining || s.membership.state == .founding
  | .pulsing => s.membership.state == .founding && !s.barrier.pullDue
  | .holding => s.membership.state.participant && !s.barrier.pullDue
  | .draining => s.membership.state == .leaving && !s.barrier.pullDue
  | .released => s.membership.state.participant

/-- FRAME is pulled exactly in PULSING, HOLDING and DRAINING (section 1.2). -/
def State.pullFits (s : State) : Bool := s.barrier.pulled == s.barrier.phase.pulls

/-- A fault cause is held exactly in DETACHED (R71). -/
def State.faultFits (s : State) : Bool := s.membership.fault.isSome == (s.membership.state == .detached)

/-- A profile is in force exactly outside UNCONFIGURED (R72). -/
def State.profileFits (s : State) : Bool := s.profile.isSome == (s.membership.state != .unconfigured)

/-- XTRIG, HCODE and the strobe programs rest outside FLUSHING, ACTIVE and LEAVING (R143, R146, R155). -/
def State.outputsFit (s : State) : Bool :=
  s.membership.state.participant
    || (!s.sequencer.xtrig && s.sequencer.headWord.isNone && allSettled s.generators)

/-- Outside the rig states the roster is empty, no window is open and the epoch is 0 (R24, R41, R129). -/
def State.rigFits (s : State) : Bool :=
  s.membership.state.inRig || (s.roster.members.isEmpty && !s.transceiver.windowOpen && s.epochs.epoch == 0)

/-- Without a number in force the frame number is 0 (R4). -/
def State.numberFits (s : State) : Bool := s.hasNumber || s.barrier.frameNo == 0

/-- A grant table is held only in JOINING, FLUSHING, ACTIVE and LEAVING (R57, R58). -/
def State.tableFits (s : State) : Bool := s.resolver.table.isNone || s.membership.state.judgesSplit

/-- The cursor holds a current segment only in FLUSHING, ACTIVE and LEAVING (R123). -/
def State.cursorFits (s : State) : Bool := s.cursor.segment.isNone || s.membership.state.participant

/-- A join segment is held exactly in the rig states (R73, R104). -/
def State.joinFits (s : State) : Bool := s.membership.joinSegment.isSome == s.membership.state.inRig

/-- The ready flag is set only in ACTIVE (R87, R132). -/
def State.readyFits (s : State) : Bool := s.epochs.ready.isNone || s.membership.state == .active

/-- A leave is pending only in FLUSHING and ACTIVE (R84, R87). -/
def State.leaveFits (s : State) : Bool :=
  s.membership.pendingLeave.isNone || s.membership.state == .flushing || s.membership.state == .active

/-- The adoption marker is held only in LISTENING (R76, R79). -/
def State.adoptionFits (s : State) : Bool := s.membership.adopted.isNone || s.membership.state == .listening

/-- The timebase: the settle count's range, its value when unlocked, the loss, and what waits for a tick (R175 to R177,
R179). -/
def State.timebaseFits (s : State) : Bool :=
  decide (s.timebase.settle ≤ Config.settleTicks)
    && (s.timebase.lock != .unlocked || s.timebase.settle == 0)
    && (s.membership.state != .unconfigured || (s.timebase.lock == .unlocked && s.timebase.divider == Config.resetDivider))
    && (!s.timebase.lost || s.timebase.lock == .unlocked)
    && (s.timebase.lost || (s.timebase.deferredRecords.isEmpty && s.port.waiting.isEmpty))
    && (!s.rstnLow || (s.membership.state == .unconfigured && s.port.waiting.isEmpty))

/-- The barrier unit is in order with the membership controller. -/
def State.barrierInOrder (s : State) : Bool := s.phaseFits && s.pullFits && s.numberFits

/-- The membership controller is in order with the blocks it governs. -/
def State.membershipInOrder (s : State) : Bool :=
  s.faultFits && s.profileFits && s.joinFits && s.leaveFits && s.adoptionFits && s.readyFits

/-- The rig blocks hold nothing that the station state rules out. -/
def State.blocksInOrder (s : State) : Bool := s.outputsFit && s.rigFits && s.tableFits && s.cursorFits

/-- The blocks agree with one another. -/
def State.inOrder (s : State) : Bool :=
  s.barrierInOrder && s.membershipInOrder && s.blocksInOrder && s.timebaseFits

/-! ## Light lanes -/

/-- A generator uses its lane lawfully: a record on a lane has a decision, a granted one's lane is in the in-use set, and a
denied one never leaves DONE; with no record nothing runs (R62, R63, R150, R151). -/
def Generator.lawful (inUse : LaneSet) (g : Generator) : Bool :=
  match g.record, g.decision with
  | none, _ => g.settled
  | some _, none => false
  | some _, some (.denied _) => g.phase == .done
  | some r, some .granted =>
    match r.lane with
    | some lane => inUse.getLsbD lane.val
    | none => false
  | some r, some .unarbitrated => r.lane.isNone

/-- Every generator uses its lane lawfully. -/
def State.lanesLawful (s : State) : Bool := s.generators.toList.all (Generator.lawful s.resolver.inUse)

/-- The lanes on which the station drives light now. -/
def State.drivesLane (s : State) (lane : Fin 8) : Bool :=
  s.generators.toList.any fun g => g.output && (g.record.bind StrobeRecord.lane) == some lane

/-! ## Canonical forms -/

/-- The log is within its bounds (R159, R163). -/
def StationLog.bounded (l : StationLog) : Bool :=
  decide (l.queue.length ≤ Config.logCapacity) && decide (l.gap ≤ Config.gapLimit)

/-- Entries of strictly ascending index: at most one per station (R39). -/
def ascending : List Member → Bool
  | [] | [_] => true
  | a :: b :: rest => decide (a.index < b.index) && ascending (b :: rest)

/-- The roster's entries ascend. -/
def State.rosterAscending (s : State) : Bool := ascending s.roster.members

/-! ## Commands, plans and notes in range -/

/-- A command that the control port hands over at a tick (section 11.2, R169, R170). -/
def isCommand (c : Instr) : Bool := (commandBytes c).isSome

/-- A strobe record within the ranges of R99. -/
def StrobeRecord.inRange (r : StrobeRecord) : Bool :=
  Machine.inRange 0 Config.maxTime r.delay && Machine.inRange 1 65535 r.onTime && Machine.inRange 1 65535 r.offTime
    && Machine.inRange 1 16 r.pulses

/-- A link's loop count within its byte (R102). -/
def Link.inRange : Link → Bool
  | .repeats n => decide (n ≤ 255)
  | .next _ | .park | .depart => true

/-- A plan within the ranges of section 6.2. -/
def Plan.inRange (p : Plan) : Bool :=
  Machine.inRange 1 Config.maxTime p.exposureTime && Machine.inRange 0 Config.maxTime p.exposureOffset
    && Machine.inRange 1 4 p.burstCount && Machine.inRange 1 65535 p.burstGap
    && Machine.inRange 0 Config.maxTime p.minFrameTime && Machine.inRange 1 16 p.divisor && Machine.inRange 0 15 p.phase
    && Machine.inRange 1 255 p.repeatCount && p.records.all StrobeRecord.inRange && p.link.inRange

/-- A note that keeps its own form (section 2.4, R28, R30). -/
def Note.wellMade (n : Note) : Bool :=
  n.kind.fits n.sender && n.lanesDistinct && decide (n.claims.length ≤ 4)

end Sys2Proof.Machine
end

