-- ==== Sys2Proof/Certificates/Slice0/Obligations.lean ====
section
/-! DEFINITION. The statements for the provers, each a Prop over the model's step and commands. `step` takes the command
at the front of the queue; a statement about one command is about `exec` of it. "With ticks" means that TCLK gives ticks and
RSTN is high (`State.ticking`). -/

open Sys2Proof Sys2Proof.Machine

/-- A step with a command at the front of the queue runs that command on the queue's rest. (11.1 Transactions) -/
def Obligations.StepRunsTheFrontCommand : Prop :=
  ∀ (c : Instr) (s : State), step { s with pending := c :: s.pending } = exec c s

/-- On an empty queue what is due enters the queue, else one tick passes and moves only what follows the clock. (11.4
The timebase, R5, R6, R9, R13, R15, R23, R25, R27, R146, R151, R176) The model's choices in it: log entries 3, 4, 13,
25. -/
def Obligations.EmptyQueueLetsOneTickPass : Prop :=
  ∀ s : State, s.pending = [] →
    step s = .next (tick s) ∧
    (s.ticking = false → tick s = s) ∧
    (s.ticking = true → s.dueNow ≠ [] →
      ∃ events choices, events.Perm s.dueNow ∧ tick s = { s with pending := events, choices }) ∧
    (s.ticking = true → s.dueNow = [] →
      let high := s.frameIn = true ∧ s.barrier.pulled = false
      tick s =
        { s with
          now := s.now + 1
          barrier :=
            { s.barrier with
              lows :=
                if high then (if s.barrier.lows = 2 ∧ s.barrier.highs = 0 then 2 else 0)
                else if s.barrier.highs = 0 then min 2 (s.barrier.lows + 1) else 1
              highs := if high ∧ s.barrier.lows = 2 ∧ s.barrier.highs = 0 then 1 else 0
              sampled := false
              marked := false }
          timebase :=
            { s.timebase with
              settle :=
                if s.timebase.lock = .settling then min 2000 (s.timebase.settle + 1) else s.timebase.settle } }) ∧
    (s.dueEvents = [] → s.dueNow = if s.frameIn = true ∧ s.risesNow = true then [.frameMark] else []) ∧
    (s.dueEvents ≠ [] →
      (¬ (s.frameIn = true ∧ s.risesNow = true ∧ Instr.listenTimerExpiry ∈ s.dueEvents) → s.dueNow = s.dueEvents) ∧
      (s.dueNow = s.dueEvents ∨ s.dueNow =
          (let rest := s.dueEvents.filter fun e => e ≠ .listenTimerExpiry
          if rest = [] then [.frameMark] else rest))) ∧
    s.dueEvents.Nodup ∧
    (let come (start : Option Nat) (after_ : Nat) : Prop := ∃ t, start = some t ∧ t + after_ ≤ s.now
      let b := s.barrier
      let x := s.transceiver
      let opened := x.windowStart.getD s.now
      let strobe (channel : Fin 4) (phase : StrobePhase) : Prop :=
        (s.generators.get channel).phase = phase ∧ come (s.generators.get channel).phaseEnd 0;
      ∀ event, event ∈ s.dueEvents ↔
        match event with
        | .participantPull => b.pullDue = true ∧ b.markTick + 1 ≤ s.now
        | .minFrameTimeElapsed => (b.phase = .holding ∨ b.pullDue = true) ∧ come b.minTimeDue 0
        | .holdLimitExpiry => (b.phase = .holding ∨ b.phase = .draining) ∧ come b.holdStart (s.prof.holdLimit * 1000)
        | .stallTimerExpiry =>
          (b.phase = .watching ∨ b.phase = .released) ∧
            (s.membership.state = .founding ∨ s.membership.state = .joining ∨ s.membership.state = .flushing ∨
              s.membership.state = .active ∨ s.membership.state = .leaving) ∧
            b.pullDue = false ∧ b.stallReported = false ∧ come b.stallStart (s.prof.stallLimit * 1000)
        | .listenTimerExpiry =>
          s.membership.state = .listening ∧ b.marked = false ∧ come b.stallStart (s.prof.stallLimit * 1000)
        | .foundingPulseEnd => b.phase = .pulsing ∧ come b.pulseStart s.prof.slotTime
        | .ownTransmissionStart =>
          x.windowOpen = true ∧ x.ownPassed = false ∧ opened + s.prof.index.val * s.prof.slotTime + 8 ≤ s.now
        | .partingNoteSend =>
          x.parting.isSome = true ∧ x.windowStart.isSome = true ∧
            opened + s.prof.index.val * s.prof.slotTime + 8 ≤ s.now
        | .ownNoteCompletion levels =>
          levels = [] ∧ ∃ note, x.sending = some note ∧ note.judged = false ∧
            note.start + 8 * (14 + note.note.claims.length) ≤ s.now
        | .windowEnd => x.windowOpen = true ∧ opened + s.prof.width * s.prof.slotTime ≤ s.now
        | .hcodeWordSent => come (s.sequencer.headWord.map fun w => w.start) 11
        | .exposureEnd =>
          s.sequencer.xtrig = true ∧ come (s.sequencer.schedule[s.sequencer.started - 1]?.map fun exposure => exposure.2) 0
        | .strobeDelayEnd channel => strobe channel .delay
        | .strobeOnEnd channel => strobe channel .on
        | .strobeOffEnd channel => strobe channel .off
        | .verifyWalkConclusion =>
          ∃ since, s.verifier = .running since ∧ since + (walk s.table (s.prof.holdLimit * 1000)).1 ≤ s.now
        | .settleCountComplete => s.timebase.lock = .settling ∧ s.timebase.settle = 2000
        | _ => False)

/-- The model's choice (log entries 22, 29): no command and no event stops the part or changes the queue behind it.
(11.1 Transactions, 11.2 Commands and their acceptance) -/
def Obligations.EveryCommandAnswersANextState : Prop :=
  (∀ (c : Instr) (s : State), ∃ t, exec c s = .next t ∧ t.pending = s.pending) ∧ ∀ s : State, ∃ t, step s = .next t

/-- Every block is in its reset condition in State.reset, and every output pin at its reset level. (R20, R38, R54,
R70, R71, R95, R112, R123, R129, R143, R150, 11.6 Reset of the port and timebase) -/
def Obligations.ResetStateHoldsTheResetValues : Prop :=
  let s := State.reset
  (s.barrier.phase = .dormant ∧ s.barrier.pulled = false ∧ s.barrier.frameNo = 0 ∧ s.barrier.holdStart = none ∧
    s.barrier.stallStart = none ∧ s.barrier.pulseStart = none ∧ s.barrier.stallReported = false ∧
    s.barrier.windowDone = false ∧ s.barrier.minTimeDone = false ∧ s.barrier.exposuresDone = false ∧
    s.barrier.strobesDone = false ∧ s.barrier.lows = 0) ∧
  (s.transceiver.windowOpen = false ∧ s.transceiver.windowStart = none ∧ s.slotPosition = 0 ∧
    s.transceiver.image = none ∧ s.transceiver.sending = none ∧ s.transceiver.parting = none ∧
    s.transceiver.buffer = [] ∧ (∀ slot, s.outcomeOf slot = .pending) ∧ s.transceiver.foreignSet = 0 ∧
    s.transceiver.closedEarly = false) ∧
  (s.roster.members = [] ∧ s.roster.view = none ∧ s.roster.required = 0 ∧ s.resolver.table = none ∧
    s.resolver.turnMark = false ∧ s.resolver.inUse = 0 ∧ s.resolver.inUseFrame = none) ∧
  (s.membership.state = .unconfigured ∧ s.membership.fault = none ∧ s.membership.pendingLeave = none ∧
    s.membership.joinSegment = none ∧ s.membership.adopted = none ∧ s.membership.quiet = 0 ∧
    s.membership.foreignHeard = false ∧ s.membership.founder = false ∧ s.membership.leavingFrame = false) ∧
  ((∀ e, s.plan? e = none) ∧ s.verifier = .idle none) ∧
  (s.cursor.segment = none ∧ s.cursor.entry = none ∧ s.cursor.repeatsLeft = 0 ∧ s.cursor.loopsLeft = .forever ∧
    s.cursor.headSent = none ∧ s.cursor.parked = false ∧ s.cursor.current = none ∧ s.cursor.lookahead = none) ∧
  (s.epochs.epoch = 0 ∧ s.epochs.staged = none ∧ s.epochs.ready = none ∧ s.epochs.announced = false ∧
    s.epochs.deferred = false ∧ s.epochs.turn = .idle) ∧
  (s.sequencer.schedule = [] ∧ s.sequencer.xtrig = false ∧ s.sequencer.headWord = none ∧
    (∀ c, (s.generators.get c).record = none ∧ (s.generators.get c).phase = .done ∧
      (s.generators.get c).outcome = none)) ∧
  (s.log.queue = [] ∧ s.log.gap = 0) ∧
  (s.store = List.replicate 14 0 ∧ s.profile = none ∧ s.digest = 0 ∧ s.timebase.divider = 40 ∧
    s.timebase.lock = .unlocked ∧ s.timebase.settle = 0 ∧ s.port.waiting = []) ∧
  s.pins =
    { framePulled := false, noteReleased := (true, true), xtrig := false, hcode := false
      strobes := Vector.replicate 4 false, attn := false, misoDriven := false }

/-- Power-on reset and RSTN put every block in its reset condition; RSTN holds the part until it rises. (11.6 Reset of
the port and timebase) The model's choices in it: log entries 4, 7, 8, 21. -/
def Obligations.ResetsRestoreTheResetState : Prop :=
  ∀ s : State,
    exec .powerOnReset s =
      .next
        { State.reset with pending := s.pending, choices := s.choices, rstnLow := s.rstnLow, frameIn := s.frameIn } ∧
    exec .rstnLow s =
      .next { State.reset with pending := s.pending, choices := s.choices, rstnLow := true, frameIn := s.frameIn } ∧
    exec .rstnRelease s = .next { s with rstnLow := false }

/-- Held in reset no command is taken; without TCLK one waits; an unassigned byte needs no tick; every result has its
byte on MISO. (R169, R170, R171, R177, R179, R181) The model's choices in it: log entries 5, 25. -/
def Obligations.CommandsNeedATick : Prop :=
  (∀ (code : ResultCode) (data : List Byte) (s : State),
    let resultByte : Byte :=
      match code with
      | .accepted => 0x01
      | .state => 0x02
      | .busy => 0x03
      | .range => 0x04
      | .live => 0x05
      | .unverified => 0x06
      | .empty => 0x07
    s.replyWith code data =
      { s with
        port :=
          { s.port with result := some code, data, logTaken := .nothing, selected := true, oneFiller := false } } ∧
    s.reply code = s.replyWith code [] ∧
    ∀ timing i,
      (s.replyWith code data).port.miso timing i =
        some (if i < max 1 timing then 0 else (resultByte :: data).getD (i - max 1 timing) 0)) ∧
  (∀ (c : Instr) (s : State), isCommand c = true → s.rstnLow = true → exec c s = .next s) ∧
  (∀ (cut : CutPoint) (s : State), s.rstnLow = true → exec (.transactionCutShort cut) s = .next s) ∧
  (∀ (c : Instr) (s : State), isCommand c = true → s.rstnLow = false → s.timebase.lost = true →
    (∀ image, c = .setProfile image → 14 ≤ image.length) → (∀ i image, c = .writePlan i image → 72 ≤ image.length) →
    (∀ code argument, c = .unassignedCommand code argument → assignedCodes.contains code = true) →
    ∃ t, exec c s = .next t ∧
      t = { s with
        port :=
          { result := none, data := [], logTaken := .nothing, selected := true, oneFiller := false
            waiting := (s.port.waiting.map fun w => (w.1, true)) ++ [(c, false)] } } ∧
      ∀ timing i, t.port.miso timing i = some 0) ∧
  (∀ (code argument : Byte) (s : State), s.rstnLow = false → assignedCodes.contains code = false →
    ∃ t, exec (.unassignedCommand code argument) s = .next t ∧
      t = { s with
        port :=
          { result := some .range, data := [], logTaken := .nothing, selected := true, oneFiller := true
            waiting := s.port.waiting.map fun w => (w.1, true) } } ∧
      ∀ timing, t.port.miso timing 0 = some 0 ∧ t.port.miso timing 1 = some 0x04 ∧
        ∀ i, t.port.miso timing (i + 2) = some 0) ∧
  ∀ (argument : Byte) (s : State), s.ticking = true →
    (2 < argument.toNat → exec (.unassignedCommand 0x31#8 argument) s = .next (s.reply .range)) ∧
    (1 < argument.toNat → exec (.unassignedCommand 0x42#8 argument) s = .next (s.reply .range))

/-- The bytes of every well-formed command are read back as that command. (11.2 Commands and their acceptance, R170,
R181) -/
def Obligations.TransactionBytesSpellTheirCommand : Prop :=
  ∀ (c : Instr) (bytes : List Byte), c.wellFormed = true → commandBytes c = some bytes → commandOf bytes = some c

/-- SET PROFILE replaces the store whole, unchecked, in UNCONFIGURED; PROFILE DONE checks it and puts it in force.
(R170, R172, R173, R174, R175, R176, R72) -/
def Obligations.ProfilesAreStoredUncheckedAndCheckedIntoForce : Prop :=
  ∀ (image : List Byte) (s : State),
    (s.rstnLow = false → image.length < 14 →
      exec (.setProfile image) s =
        .next { s with
          port :=
            { result := none, data := [], logTaken := .nothing, selected := false, oneFiller := false
              waiting := s.port.waiting.map fun w => (w.1, true) } }) ∧
    (s.ticking = true →
      (14 ≤ image.length → s.membership.state = .unconfigured →
        exec (.setProfile image) s = .next ({ s with store := image.take 14 }.reply .accepted)) ∧
      (14 ≤ image.length → s.membership.state ≠ .unconfigured →
        exec (.setProfile image) s = .next (s.reply .state)) ∧
      (s.membership.state ≠ .unconfigured → exec .profileDone s = .next (s.reply .state)) ∧
      (s.membership.state = .unconfigured → Profile.decode s.store = none →
        exec .profileDone s = .next (s.reply .range)) ∧
      ∀ p, s.membership.state = .unconfigured → Profile.decode s.store = some p →
        exec .profileDone s =
          .next ({ s with
            profile := some p
            digest := crc16 (s.store.take 8)
            timebase := { s.timebase with divider := p.divider, lock := .settling, settle := 0 }
            membership := { s.membership with state := .standby } }.reply .accepted))

/-- PROFILE DONE accepts exactly the stores whose items are in range and keep their relations, and reads each item.
(R173, 11.3 The profile) -/
def Obligations.AcceptedProfilesKeepTheirRanges : Prop :=
  (∀ img : List Byte, (Profile.decode img).isSome = true ↔
    (1 ≤ byteAt img 0 ∧ byteAt img 0 ≤ 16 ∧ 160 ≤ pairAt img 1 ∧ pairAt img 1 ≤ 1000 ∧ 5 ≤ pairAt img 3 ∧
      pairAt img 3 ≤ 2000 ∧ pairAt img 3 < pairAt img 5 ∧ pairAt img 5 ≤ 4000 ∧ 1 ≤ byteAt img 7 ∧ byteAt img 7 ≤ 7 ∧
      byteAt img 8 < byteAt img 0 ∧ 4 ≤ byteAt img 9 ∧ byteAt img 9 ≤ 40 ∧ byteAt img 10 ≤ 1 ∧
      byteAt img 0 * pairAt img 1 < pairAt img 3 * 1000)) ∧
  (∀ (img : List Byte) (p : Profile), Profile.decode img = some p →
    p.width = byteAt img 0 ∧ p.slotTime = pairAt img 1 ∧ p.holdLimit = pairAt img 3 ∧ p.stallLimit = pairAt img 5 ∧
      p.missLimit = byteAt img 7 ∧ p.index.val = byteAt img 8 ∧ p.divider = byteAt img 9 ∧
      (p.policy = .exceptions ↔ byteAt img 10 = 1) ∧ p.attention = BitVec.ofNat 24 (tripleAt img 11)) ∧
  Profile.decode (List.replicate 14 0) = none

/-- A rise of CSN ends the transaction: a reply not shifted out is lost, and a READ LOG counts what it took as lost.
(R167, R169, R170, R179) The model's choices in it: log entry 25. -/
def Obligations.CutTransactionsLoseTheirReply : Prop :=
  ∀ s : State, s.rstnLow = false →
    let lossless := s.port.logTaken = .nothing
    let afterLoss : StationLog :=
      match s.port.logTaken with
      | .nothing => s.log
      | .record => { s.log with gap := min 65535 (s.log.gap + 1) }
      | .gap n => { s.log with gap := min 65535 (s.log.gap + n) }
    let risen (result : Option ResultCode) (data : List Byte) : Port :=
      { result, data, logTaken := .nothing, selected := false, oneFiller := false
        waiting := s.port.waiting.map fun w => (w.1, true) }
    exec (.transactionCutShort .acrossReset) s = .next s ∧
    exec (.transactionCutShort .beforeTaken) s = .next { s with port := risen none [] } ∧
    exec (.transactionCutShort .inResult) s = .next { s with log := afterLoss, port := risen none [] } ∧
    (∀ n, n < s.port.data.length →
      exec (.transactionCutShort (.inData n)) s =
        .next { s with log := afterLoss, port := risen s.port.result (s.port.data.take n) }) ∧
    (∀ n, s.port.data.length ≤ n →
      exec (.transactionCutShort (.inData n)) s = .next { s with port := risen s.port.result s.port.data }) ∧
    (∀ result data timing i, (risen result data).miso timing i = none) ∧
    (lossless → afterLoss = s.log)

/-- READ STATUS returns the 17-byte status image in every state, behind filler and ACCEPTED, and changes no state.
(R169, R178, 11.7 Byte layouts) The model's choices in it: log entry 5. -/
def Obligations.ReadStatusReturnsTheStatusImage : Prop :=
  ∀ s : State, s.ticking = true →
    exec .readStatus s =
      .next { s with
        port := { s.port with
          result := some .accepted
          data := s.statusImage
          logTaken := .nothing
          selected := true
          oneFiller := false } } ∧
    (∀ timing i,
      ({ s.port with
          result := some .accepted, data := s.statusImage, logTaken := .nothing, selected := true
          oneFiller := false } : Port).miso timing i =
        some (if i < max 1 timing then 0 else (0x01#8 :: s.statusImage).getD (i - max 1 timing) 0)) ∧
    s.statusImage.length = 17 ∧
    (let bits (image : List Byte) (i low n : Nat) : Nat := (image.getD i 0).toNat / 2 ^ low % 2 ^ n;
      let image := s.statusImage;
      bits image 0 4 4 =
        (match s.membership.state with
        | .unconfigured => 0
        | .standby => 1
        | .listening => 2
        | .founding => 3
        | .joining => 4
        | .flushing => 5
        | .active => 6
        | .leaving => 7
        | .detached => 8) ∧
      bits image 0 0 4 =
        (match s.membership.fault with
        | none => 0
        | some .duplicateIndex => 1
        | some .profileMismatch => 2
        | some .noNotes => 3
        | some .epochSplit => 4
        | some .timebaseLost => 5) ∧
      bits image 1 6 2 =
        (match s.verifier with
        | .idle _ => 0
        | .running _ => 1
        | .pass => 2
        | .fail _ _ => 3) ∧
      (bits image 1 5 1 = 1 ↔ ∃ e, s.verifier = .idle (some e)) ∧
      bits image 1 3 2 =
        (match s.timebase.lock with
        | .unlocked => 0
        | .settling => 1
        | .locked => 2) ∧
      (bits image 1 2 1 = 1 ↔ s.pins.attn = true) ∧
      (bits image 2 7 1 = 1 ↔ ∃ e, s.verifier = .idle (some e) ∨ ∃ c, s.verifier = .fail e c) ∧
      (∀ e, (s.verifier = .idle (some e) ∨ ∃ c, s.verifier = .fail e c) → bits image 2 0 6 = e.val) ∧
      bits image 3 0 8 =
        (match s.verifier with
        | .fail _ .minFrame => 1
        | .fail _ .phase => 2
        | .fail _ .dupChannel => 3
        | .fail _ .dupLane => 4
        | .fail _ .busyTime => 5
        | .fail _ .linkEmpty => 6
        | .fail _ .cycle => 7
        | .idle _ | .running _ | .pass => 0) ∧
      (bits image 10 7 1 = 1 ↔ s.epochs.ready.isSome = true) ∧
      (s.epochs.ready = some .switch → bits image 10 6 1 = 0) ∧ (s.epochs.ready = some .keep → bits image 10 6 1 = 1) ∧
      (bits image 10 5 1 = 1 ↔ s.epochs.deferred = true) ∧
      bits image 10 3 2 =
        (match s.epochs.turn with
        | .idle => 0
        | .catchingUp => 1
        | .advanceDue _ => 2) ∧
      (bits image 10 2 1 = 1 ↔ s.epochs.turn = .advanceDue true) ∧
      (bits image 11 7 1 = 1 ↔ s.epochs.staged.isSome = true) ∧
      ∀ e, s.epochs.staged = some e → bits image 11 0 6 = e.val) ∧
    (s.statusImage.drop 4).take 4 = bytes4 s.barrier.frameNo.toNat ∧
    (s.statusImage.drop 8).take 2 = bytes2 s.epochs.epoch.toNat ∧
    s.statusImage.getD 12 0 = byte s.log.queue.length ∧
    (s.statusImage.drop 13).take 2 = bytes2 s.log.gap ∧
    s.statusImage.drop 15 = bytes2 s.digest.toNat

/-- READ LOG yields the GAP, else the oldest record, else EMPTY, and its image says what the record holds. (R160,
R161, R162, R166, 11.7 Byte layouts) -/
def Obligations.ReadLogYieldsGapThenOldestThenEmpty : Prop :=
  (∀ s : State, s.ticking = true →
    (0 < s.log.gap →
      exec .readLog s =
        .next { s with
          log := { s.log with gap := 0 }
          port := { s.port with
            result := some .accepted
            data := gapImage s.barrier.frameNo s.epochs.epoch s.log.gap
            logTaken := .gap s.log.gap
            selected := true
            oneFiller := false } } ∧
      (gapImage s.barrier.frameNo s.epochs.epoch s.log.gap).length = 16) ∧
    (∀ r rest, s.log.gap = 0 → s.log.queue = r :: rest →
      exec .readLog s =
        .next { s with
          log := { s.log with queue := rest }
          port := { s.port with
            result := some .accepted
            data := r.encode
            logTaken := .record
            selected := true
            oneFiller := false } } ∧
      r.encode.length = 16) ∧
    (s.log.gap = 0 → s.log.queue = [] → exec .readLog s = .next (s.reply .empty))) ∧
  let bits (image : List Byte) (i low n : Nat) : Nat := (image.getD i 0).toNat / 2 ^ low % 2 ^ n;
  (∀ (frame : FrameNo) (epoch : EpochNo) (count : Nat),
    gapImage frame epoch count =
      0x3F#8 :: bytes4 frame.toNat ++ bytes2 epoch.toNat ++ bytes2 count ++ List.replicate 7 0) ∧
  ∀ r : Record,
    (r.encode.drop 1).take 4 = bytes4 r.frame.toNat ∧ (r.encode.drop 5).take 2 = bytes2 r.epoch.toNat ∧
    bits r.encode 0 0 8 =
      (match r.body with
      | .frame _ => 0x01
      | .adopted => 0x02
      | .founded => 0x03
      | .yielded => 0x04
      | .joined => 0x05
      | .left => 0x06
      | .memberAdded _ => 0x07
      | .stray _ => 0x08
      | .memberLost _ => 0x09
      | .memberLeft _ => 0x0A
      | .foreign _ => 0x0B
      | .slip _ _ => 0x0C
      | .stall => 0x0D
      | .resumed => 0x0E
      | .epoch _ => 0x0F
      | .epochLate _ => 0x10
      | .epochAdopted => 0x11
      | .fault _ => 0x12
      | .verifyDone _ => 0x13
      | .restart => 0x14) ∧
    (match r.body with
    | .frame f =>
      bits r.encode 7 5 3 =
        (match f.outcome with
        | .exposed => 0
        | .headBusy => 1
        | .flush => 2
        | .settle => 3
        | .idle => 4
        | .parked => 5
        | .abstain => 6) ∧
      (bits r.encode 7 4 1 = 1 ↔ f.late = true) ∧ (bits r.encode 7 3 1 = 1 ↔ f.truncated = true) ∧
      (bits r.encode 7 2 1 = 1 ↔ f.headBusy = true) ∧ (bits r.encode 7 1 1 = 1 ↔ f.shortBurst = true) ∧
      (bits r.encode 7 0 1 = 1 ↔ f.turn = true) ∧ (bits r.encode 8 7 1 = 1 ↔ f.planIndex.isSome = true) ∧
      (∀ e, f.planIndex = some e → bits r.encode 8 0 6 = e.val) ∧
      (f.exposures ≤ 4 → bits r.encode 9 4 3 = f.exposures) ∧
      (∀ c : Fin 4,
        (bits r.encode 9 0 8 * 256 + bits r.encode 10 0 8) / 2 ^ (9 - 3 * c.val) % 8 =
          (match f.channels.get c with
          | none => 0
          | some .grantedRun => 1
          | some .privateRun => 2
          | some (.denied .turn) => 3
          | some (.denied .forfeit) => 4
          | some (.denied .lostArbitration) => 5
          | some .notRun => 6
          | some .cut => 7)) ∧
      (∀ l : Fin 8, (r.encode.getD 11 0).getLsbD l.val = f.granted.getLsbD l.val) ∧
      ∀ k, k < 4 →
        (∀ lane reason, f.denied[k]? = some (lane, reason) →
          bits r.encode (12 + k) 7 1 = 1 ∧ bits r.encode (12 + k) 4 3 = lane.val ∧
          bits r.encode (12 + k) 0 2 =
            (match reason with
            | .turn => 1
            | .forfeit => 2
            | .lostArbitration => 3)) ∧
        (f.denied[k]? = none → bits r.encode (12 + k) 0 8 = 0)
    | .memberAdded i | .stray i | .memberLost i | .memberLeft i =>
      bits r.encode 7 0 8 = i.val ∧ r.encode.drop 8 = List.replicate 8 0
    | .foreign slots => r.encode.drop 7 = bytes2 slots.toNat ++ List.replicate 7 0
    | .slip old new => r.encode.drop 7 = bytes4 old.toNat ++ bytes4 new.toNat ++ [0]
    | .epoch (some e) | .epochLate (some e) => bits r.encode 7 0 8 = e.val ∧ r.encode.drop 8 = List.replicate 8 0
    | .epoch none | .epochLate none => bits r.encode 7 0 8 = 0xFF ∧ r.encode.drop 8 = List.replicate 8 0
    | .fault cause =>
      bits r.encode 7 0 8 =
        (match cause with
        | .duplicateIndex => 1
        | .profileMismatch => 2
        | .noNotes => 3
        | .epochSplit => 4
        | .timebaseLost => 5) ∧
      r.encode.drop 8 = List.replicate 8 0
    | .verifyDone .pass =>
      bits r.encode 7 0 8 = 1 ∧ bits r.encode 8 7 1 = 0 ∧ r.encode.drop 9 = List.replicate 7 0
    | .verifyDone (.fail e code) =>
      bits r.encode 7 0 8 = 2 ∧ bits r.encode 8 7 1 = 1 ∧ bits r.encode 8 0 6 = e.val ∧
      bits r.encode 9 0 8 =
        (match code with
        | .minFrame => 1
        | .phase => 2
        | .dupChannel => 3
        | .dupLane => 4
        | .busyTime => 5
        | .linkEmpty => 6
        | .cycle => 7) ∧
      r.encode.drop 10 = List.replicate 6 0
    | .verifyDone (.interrupted e) =>
      bits r.encode 7 0 8 = 3 ∧ bits r.encode 8 7 1 = 1 ∧ bits r.encode 8 0 6 = e.val ∧
      r.encode.drop 9 = List.replicate 7 0
    | .adopted | .founded | .yielded | .joined | .left | .stall | .resumed | .epochAdopted | .restart =>
      r.encode.drop 7 = List.replicate 9 0)

/-- READ ROSTER, READ GRANTS and READ PLAN return the entry, table or plan asked for, or EMPTY where there is none.
(R39, R40, R52, R69, R110, 11.7 Byte layouts) The model's choices in it: log entries 31, 35. -/
def Obligations.ReadsOfRosterGrantsAndPlansReturnTheirImages : Prop :=
  let bits (image : List Byte) (i low n : Nat) : Nat := (image.getD i 0).toNat / 2 ^ low % 2 ^ n;
  (∀ (i : Fin 16) (s : State), s.ticking = true →
    (∀ b : Byte, 15 < b.toNat → exec (.readRoster b) s = .next (s.reply .range)) ∧
    (s.profile.isSome = true → s.prof.width ≤ i.val → exec (.readRoster (byte i.val)) s = .next (s.reply .range)) ∧
    ((s.profile = none ∨ i.val < s.prof.width) →
      (∀ own, s.ownEntry = some own → i = s.prof.index →
        exec (.readRoster (byte i.val)) s = .next (s.replyWith .accepted (own.image true))) ∧
      ((s.ownEntry = none ∨ i ≠ s.prof.index) → ∀ m, s.roster.entry i = some m →
        exec (.readRoster (byte i.val)) s = .next (s.replyWith .accepted (m.image false))) ∧
      ((s.ownEntry = none ∨ i ≠ s.prof.index) → s.roster.entry i = none →
        exec (.readRoster (byte i.val)) s = .next (s.reply .empty))) ∧
    (let entry (state : MemberState) (heard : Option FrameNo) : Member :=
        { index := s.prof.index, state, epoch := s.epochs.epoch, ready := s.epochs.ready.isSome
          catchup := decide (s.epochs.turn = .catchingUp), lastHeard := heard, misses := 0, removal := .none, stamp := none
          expected := false };
      s.ownEntry =
        match s.membership.state with
        | .unconfigured | .standby | .listening | .detached => none
        | .founding => some (entry .founding none)
        | .joining => some (entry .joining (some s.barrier.frameNo))
        | .flushing => some (entry .flushing (some s.barrier.frameNo))
        | .active => some (entry .active (some s.barrier.frameNo))
        | .leaving => some (entry .leaving (some s.barrier.frameNo))) ∧
    (∀ (own : Bool) (m : Member),
      let image := m.image own;
      image.length = 16 ∧ (bits image 0 7 1 = 1 ↔ own = true) ∧ (bits image 0 6 1 = 1 ↔ m.expected = true) ∧
      bits image 0 0 4 = m.index.val ∧
      bits image 1 5 3 =
        (match m.state with
        | .joining => 0
        | .founding => 1
        | .flushing => 2
        | .active => 3
        | .leaving => 4
        | .lost => 5) ∧
      (bits image 1 1 1 = 1 ↔ m.ready = true) ∧ (bits image 1 0 1 = 1 ↔ m.catchup = true) ∧
      (image.drop 2).take 2 = bytes2 m.epoch.toNat ∧
      (m.misses ≤ 7 →
        (bits image 4 7 1 = 1 ↔ m.lastHeard.isSome = true) ∧ (bits image 4 6 1 = 1 ↔ m.stamp.isSome = true) ∧
        bits image 4 4 2 =
          (match m.removal with
          | .none => 0
          | .left => 1
          | .lost => 2) ∧
        bits image 4 0 3 = m.misses) ∧
      (∀ frame, m.lastHeard = some frame → (image.drop 5).take 4 = bytes4 frame.toNat) ∧
      (∀ frame epoch, m.stamp = some (frame, epoch) →
        (image.drop 9).take 4 = bytes4 frame.toNat ∧ (image.drop 13).take 2 = bytes2 epoch.toNat) ∧
      bits image 15 0 8 = 0) ∧
    (∀ t, s.resolver.table = some t →
      exec .readGrants s = .next (s.replyWith .accepted (s.grantsImage t)) ∧
      (let image := s.grantsImage t;
        image.length = 42 ∧ image.take 4 = bytes4 t.frame.toNat ∧ (bits image 4 7 1 = 1 ↔ t.complete = true) ∧
        (bits image 4 6 1 = 1 ↔ s.resolver.turnMark = true) ∧
        (bits image 4 5 1 = 1 ↔ s.resolver.inUseFrame.isSome = true) ∧
        (∀ frame, s.resolver.inUseFrame = some frame → (image.drop 5).take 4 = bytes4 frame.toNat) ∧
        (∀ l : Fin 8, (image.getD 9 0).getLsbD l.val = s.resolver.inUse.getLsbD l.val) ∧
        ∀ lane : Fin 8,
          let entry := t.lanes.get lane
          let first := 10 + 4 * lane.val;
          (bits image first 7 1 = 1 ↔ entry.winner.isSome = true) ∧
          (bits image (first + 1) 7 1 = 1 ↔ entry.winner.isSome = true) ∧
          (bits image (first + 1) 6 1 = 1 ↔ entry.claimants.getLsbD s.prof.index.val = true) ∧
          (∀ station priority, entry.winner = some (station, priority) →
            bits image first 0 4 = station.val ∧ bits image (first + 1) 0 2 = priority.val) ∧
          (image.drop (first + 2)).take 2 = bytes2 entry.claimants.toNat)) ∧
    (s.resolver.table = none → exec .readGrants s = .next (s.reply .empty))) ∧
  ∀ (e : Fin 64) (s : State), s.ticking = true →
    (∀ b : Byte, 63 < b.toNat → exec (.readPlan b) s = .next (s.reply .range)) ∧
    (s.plan? e = none → exec (.readPlan (byte e.val)) s = .next (s.reply .empty)) ∧
    ∀ p, s.plan? e = some p →
      exec (.readPlan (byte e.val)) s =
        .next (s.replyWith .accepted (p.encode ++ [if s.live e then 1 else 0])) ∧
      p.encode.length = 72

/-- A taken WRITE PLAN replaces the entry and ends a running walk; a refused one changes only the reply. (R103, R104,
R105, R107, R108, R119, R181) -/
def Obligations.WritePlanReplacesTheEntryWholeOrChangesNothing : Prop :=
  ∀ (e : Fin 64) (image : List Byte) (content : Option Plan) (s : State), s.ticking = true →
    (72 ≤ image.length → s.membership.state ≠ .unconfigured → s.live e = false → decodeEntry (image.take 72) = some content →
      ((∀ since, s.verifier ≠ .running since) →
        exec (.writePlan (byte e.val) image) s =
          .next ({ s with table := s.table.set e.val content e.isLt, verifier := .idle none }.reply .accepted)) ∧
      ∀ since, s.verifier = .running since →
        ∃ choices,
          exec (.writePlan (byte e.val) image) s =
            .next ({ s with
              table := s.table.set e.val content e.isLt
              verifier := .idle (some e)
              log := s.log.append
                { body := .verifyDone (.interrupted e), frame := s.barrier.frameNo, epoch := s.epochs.epoch }
              choices }.reply .accepted)) ∧
    (s.live e = true ↔
      ∃ (start : Fin 64) (path : List (Fin 64)),
        (((s.membership.state = .joining ∨ s.membership.state = .flushing ∨ s.membership.state = .active ∨
              s.membership.state = .leaving) ∧ s.cursor.segment = some start) ∨
          s.membership.joinSegment = some start ∨ s.epochs.staged = some start) ∧
        path.Nodup ∧ path.head? = some start ∧ path.getLast? = some e ∧ (∀ x ∈ path, (s.plan? x).isSome = true) ∧
        ∀ (k : Nat) (a b : Fin 64), path[k]? = some a → path[k + 1]? = some b →
          ∃ p, s.plan? a = some p ∧ p.link = .next b) ∧
    (∀ index, image.length < 72 → exec (.writePlan index image) s = .next s.noReply) ∧
    (∀ index, 72 ≤ image.length → s.membership.state = .unconfigured →
      exec (.writePlan index image) s = .next (s.reply .state)) ∧
    (∀ index, 72 ≤ image.length → s.membership.state ≠ .unconfigured → 63 < index.toNat →
      exec (.writePlan index image) s = .next (s.reply .range)) ∧
    (72 ≤ image.length → s.membership.state ≠ .unconfigured →
      (s.live e = true → exec (.writePlan (byte e.val) image) s = .next (s.reply .live)) ∧
      (s.live e = false → decodeEntry (image.take 72) = none →
        exec (.writePlan (byte e.val) image) s = .next (s.reply .range)) ∧
      (byteAt image 0 = 0 → decodeEntry (image.take 72) = some none) ∧
      (s.live e = false →
        (2 ≤ byteAt image 0 ∨
          (byteAt image 0 = 1 ∧
            ((64 ≤ byteAt image 19 ∧ byteAt image 19 ≤ 254) ∨ 3 < byteAt image 20 ∨
              ∃ k : Fin 4, byteAt image 18 / 2 ^ k.val % 2 = 1 ∧
                (byteAt image (24 + 12 * k.val) / 16 % 4 = 3 ∨
                  (8 ≤ byteAt image (25 + 12 * k.val) ∧ byteAt image (25 + 12 * k.val) ≠ 15))))) →
        exec (.writePlan (byte e.val) image) s = .next (s.reply .range)))

/-- A plan image's fields stand at their bytes, every plan in range is read back whole, and every malformed image
gives none. (R99, R102, R105, R110, R181, 11.7 Byte layouts) The model's choices in it: log entry 35. -/
def Obligations.PlanImagesSpellTheirPlanOrAreMalformed : Prop :=
  (∀ p : Plan, p.inRange = true → p.encode.length = 72 ∧ decodeEntry p.encode = some (some p)) ∧
  ∀ img : List Byte,
    let present (k : Fin 4) : Prop := byteAt img 18 / 2 ^ k.val % 2 = 1
    let first (k : Fin 4) : Nat := 24 + 12 * k.val
    let outside (lo hi v : Nat) : Prop := v < lo ∨ hi < v;
    (byteAt img 0 = 0 → decodeEntry img = some none) ∧
    (2 ≤ byteAt img 0 → decodeEntry img = none) ∧
    (byteAt img 0 = 1 →
      (decodeEntry img = none ↔
        (64 ≤ byteAt img 19 ∧ byteAt img 19 ≤ 254) ∨ 3 < byteAt img 20 ∨
        (byteAt img 19 < 64 ∧ (byteAt img 20 ≠ 0 ∨ byteAt img 21 ≠ 0)) ∨
        (byteAt img 19 = 255 ∧
          (byteAt img 20 = 0 ∨ ((byteAt img 20 = 2 ∨ byteAt img 20 = 3) ∧ byteAt img 21 ≠ 0))) ∨
        (∃ k, present k ∧ byteAt img (first k) / 16 % 4 = 3) ∨
        (∃ k, present k ∧ 8 ≤ byteAt img (first k + 1) ∧ byteAt img (first k + 1) ≠ 15) ∨
        (∃ k, present k ∧
          (1048575 < tripleAt img (first k + 2) ∨ pairAt img (first k + 5) = 0 ∨ pairAt img (first k + 7) = 0 ∨
            outside 1 16 (byteAt img (first k + 9)))) ∨
        outside 1 1048575 (tripleAt img 1) ∨ 1048575 < tripleAt img 4 ∨ outside 1 4 (byteAt img 7) ∨
        pairAt img 8 = 0 ∨ 1048575 < tripleAt img 10 ∨ outside 1 16 (byteAt img 13) ∨ 15 < byteAt img 14 ∨
        byteAt img 15 = 0) ∧
      ∀ content, decodeEntry img = some content →
        ∃ p, content = some p ∧ p.exposureTime = tripleAt img 1 ∧ p.exposureOffset = tripleAt img 4 ∧
          p.burstCount = byteAt img 7 ∧ p.burstGap = pairAt img 8 ∧ p.minFrameTime = tripleAt img 10 ∧
          p.divisor = byteAt img 13 ∧ p.phase = byteAt img 14 ∧ p.repeatCount = byteAt img 15 ∧
          p.headMode.val = byteAt img 16 / 64 ∧ (p.dark = true ↔ byteAt img 16 % 2 = 1) ∧
          p.headCode.toNat = byteAt img 17 ∧
          (∀ e : Fin 64, byteAt img 19 = e.val → p.link = .next e) ∧
          (byteAt img 20 = 1 → p.link = .repeats (byteAt img 21)) ∧ (byteAt img 20 = 2 → p.link = .park) ∧
          (byteAt img 20 = 3 → p.link = .depart) ∧
          ∀ k, (¬ present k → p.slots.get k = none) ∧
            (present k → ∃ r, p.slots.get k = some r ∧ r.channel.val = byteAt img (first k) / 64 ∧
              (match r.reference with
                | .mark => 0
                | .firstExpose => 1
                | .lastExposeEnd => 2) = byteAt img (first k) / 16 % 4 ∧
              r.priority.val = byteAt img (first k) / 4 % 4 ∧
              (r.cutPolicy = .truncate ↔ byteAt img (first k) / 2 % 2 = 1) ∧
              (byteAt img (first k + 1) = 15 → r.lane = none) ∧
              (∀ l : Fin 8, byteAt img (first k + 1) = l.val → r.lane = some l) ∧
              r.delay = tripleAt img (first k + 2) ∧ r.onTime = pairAt img (first k + 5) ∧
              r.offTime = pairAt img (first k + 7) ∧ r.pulses = byteAt img (first k + 9)))

/-- Every well-made note is received as it was sent; any other reception is GARBAGE or FOREIGN by the first check it
fails. (R21, R22, R26, R29, R30, R31, R180, 11.7 Byte layouts) -/
def Obligations.NotesAreHeardAsSentOrByTheFirstFailedCheck : Prop :=
  (∀ n : Note, n.wellMade = true →
    receivedBytes (symbolsOf n.encode) = n.encode ∧
    receptionTicks (symbolsOf n.encode) = 8 * (14 + n.claims.length) ∧
    classify n.digest n.index n.encode = .valid n ∧
    ∀ own : Crc, own ≠ n.digest → classify own n.index n.encode = .foreign) ∧
  (∀ (own : Crc) (slot : Fin 16) (bytes : List Byte),
    let count := byteAt bytes 11
    let whole := 12 ≤ bytes.length ∧ count ≤ 4 ∧ 14 + count ≤ bytes.length
    let started := byteAt bytes 0 = 0x2D
    let intact := (crc16 (bytes.take (12 + count))).toNat = pairAt bytes (12 + count)
    let kind := byteAt bytes 1 / 4 % 4
    let sender := byteAt bytes 2 / 32
    let paired := (kind = 0 ∧ (sender = 2 ∨ sender = 3)) ∨ (kind = 1 ∧ sender = 0) ∨ (kind = 2 ∧ sender = 1) ∨
      (kind = 3 ∧ sender = 4)
    let claims := ((bytes.drop 12).take count).map fun c => (c.toNat / 4 % 8, c.toNat % 4)
    let distinct := (claims.map Prod.fst).Nodup;
    (¬ whole → classify own slot bytes = .garbage) ∧
    (whole → ¬ started → classify own slot bytes = .garbage) ∧
    (whole → started → ¬ intact → classify own slot bytes = .garbage) ∧
    (whole → started → intact → pairAt bytes 9 ≠ own.toNat → classify own slot bytes = .foreign) ∧
    (whole → started → intact → pairAt bytes 9 = own.toNat →
      (¬ paired → classify own slot bytes = .garbage) ∧
      (¬ distinct → classify own slot bytes = .garbage) ∧
      (byteAt bytes 1 / 16 ≠ slot.val → classify own slot bytes = .garbage) ∧
      (paired → distinct → byteAt bytes 1 / 16 = slot.val →
        ∃ n, classify own slot bytes = .valid n ∧ n.index = slot ∧
          (match n.kind with
            | .status => 0
            | .join => 1
            | .found => 2
            | .leave => 3) = kind ∧
          (match n.sender with
            | .joining => 0
            | .founding => 1
            | .flushing => 2
            | .active => 3
            | .leaving => 4) = sender ∧
          (n.ready = true ↔ byteAt bytes 2 / 2 % 2 = 1) ∧ (n.catchup = true ↔ byteAt bytes 2 % 2 = 1) ∧
          n.frame.toNat = quadAt bytes 3 ∧ n.epoch.toNat = pairAt bytes 7 ∧ n.digest = own ∧
          n.claims.map (fun c => (c.lane.val, c.priority.val)) = claims))) ∧
  ∀ (own : Crc) (slot : Fin 16) (heard : List Bool) (tail : List (Bool × Bool)),
    (tail = [] ∨ ∃ half rest, tail = (half, half) :: rest) →
    let symbols := heard.map (fun b => (b, !b)) ++ tail
    let count := ((heard.drop 88).take 8).foldl (fun v b => 2 * v + b.toNat) 0;
    (96 ≤ heard.length → 4 < count →
      receptionTicks symbols = 96 ∧ classify own slot (receivedBytes symbols) = .garbage) ∧
    (heard.length < 96 ∨ (count ≤ 4 ∧ heard.length < 8 * (14 + count)) →
      receptionTicks symbols = heard.length + (if tail = [] then 0 else 1) ∧
      classify own slot (receivedBytes symbols) = .garbage)

/-- VERIFY starts a walk of the whole table; its conclusion sets PASS or FAIL, appends VERIFY_DONE and changes nothing
else. (R113, R114, R115, R117, R118) The model's choices in it: log entries 2, 24, 27, 46. -/
def Obligations.VerifyWalksTheTableAndConcludes : Prop :=
  ∀ s : State, s.ticking = true →
    s.holdTicks = s.prof.holdLimit * 1000 ∧
    ((s.membership.state = .unconfigured ∨ s.membership.state = .detached) →
      exec .verify s = .next (s.reply .state)) ∧
    (s.membership.state ≠ .unconfigured → s.membership.state ≠ .detached →
      (∀ since, s.verifier = .running since → exec .verify s = .next (s.reply .busy)) ∧
      ((∀ since, s.verifier ≠ .running since) →
        exec .verify s = .next ({ s with verifier := .running s.now }.reply .accepted) ∧
        ({ s with verifier := .running s.now }.reply .accepted).walkPosition = some (.fields 0 0))) ∧
    (∀ since, s.verifier = .running since →
      ∃ t, exec .verifyWalkConclusion s = .next t ∧
        t =
          { s with
            now := max s.now (since + (walk s.table s.holdTicks).1)
            verifier :=
              match (walk s.table s.holdTicks).2 with
              | .pass => .pass
              | .fail e c => .fail e c
              | .interrupted e => .idle (some e)
            log := s.log.append
              { body := .verifyDone (walk s.table s.holdTicks).2, frame := s.barrier.frameNo, epoch := s.epochs.epoch }
            choices := t.choices
            barrier :=
              { s.barrier with
                lows := t.barrier.lows, highs := t.barrier.highs, sampled := t.barrier.sampled
                marked := t.barrier.marked }
            timebase := { s.timebase with settle := t.timebase.settle } }) ∧
    ((∀ since, s.verifier ≠ .running since) → exec .verifyWalkConclusion s = .next s)

/-- The worst-case busy time of a plan is the latest of its end points. (R116) -/
def Obligations.BusyTimeIsTheLatestEndPoint : Prop :=
  ∀ p : Plan,
    let exposuresEnd := p.exposureOffset + p.burstCount * p.exposureTime + (p.burstCount - 1) * p.burstGap
    let point (r : StrobeRecord) : Nat :=
      match r.reference with
      | .mark => 0
      | .firstExpose => p.exposureOffset
      | .lastExposeEnd => exposuresEnd
    let trainEnd (r : StrobeRecord) : Nat := point r + r.delay + r.pulses * r.onTime + (r.pulses - 1) * r.offTime
    exposuresEnd ≤ p.busyTime ∧ (∀ r ∈ p.records, trainEnd r ≤ p.busyTime) ∧
      (p.busyTime = exposuresEnd ∨ ∃ r ∈ p.records, p.busyTime = trainEnd r)

/-- The walk's verdict is PASS for a sound table and else the first fault in walk order, at the tick it is found.
(R103, R114, R115, R117, R118) -/
def Obligations.VerdictIsTheFirstFaultInWalkOrder : Prop :=
  ∀ (table : PlanTable) (holdTicks : Nat),
    let fails (p : Plan) (c : FailCode) : Prop :=
      match c with
      | .minFrame => holdTicks < p.minFrameTime
      | .phase => p.divisor ≤ p.phase
      | .dupChannel => ¬ (p.records.map (·.channel)).Nodup
      | .dupLane => ¬ (p.records.filterMap (·.lane)).Nodup
      | .busyTime => holdTicks < p.busyTime
      | .linkEmpty | .cycle => False
    let clean (e : Fin 64) : Prop := ∀ p c, table.get e = some p → ¬ fails p c
    let chain (e : Fin 64) (path : List (Fin 64)) : Prop :=
      path.head? = some e ∧ path.Nodup ∧
        ∀ (k : Nat) (a b : Fin 64), path[k]? = some a → path[k + 1]? = some b →
          ∃ p, table.get a = some p ∧ p.link = .next b
    let sound (e : Fin 64) (path : List (Fin 64)) : Prop :=
      chain e path ∧ ∃ x q, path.getLast? = some x ∧ table.get x = some q ∧ ∀ m, q.link ≠ .next m
    let ticks (paths : Fin 64 → List (Fin 64)) (below : Nat) : Nat :=
      (((List.finRange 64).filter fun e => decide (e.val < below) && (table.get e).isSome).map fun e =>
        (paths e).length).sum;
    (∀ e p c, table.get e = some p → fails p c → (∀ d : FailCode, d.code < c.code → ¬ fails p d) →
      (∀ d, d < e → clean d) → walk table holdTicks = (20 * (e.val + 1), .fail e c)) ∧
    (∀ paths : Fin 64 → List (Fin 64), (∀ e, clean e) →
      ((∀ e, (table.get e).isSome = true → sound e (paths e)) →
        walk table holdTicks = (1280 + ticks paths 64, .pass)) ∧
      ∀ e path x q m, (∀ d, d < e → (table.get d).isSome = true → sound d (paths d)) → chain e path →
        path.getLast? = some x → table.get x = some q → q.link = .next m →
        (table.get m = none →
          walk table holdTicks = (1280 + ticks paths e.val + path.length, .fail x .linkEmpty)) ∧
        (m ∈ path → walk table holdTicks = (1280 + ticks paths e.val + path.length, .fail e .cycle))) ∧
    ((walk table holdTicks).2 = .pass →
      ∀ (e : Fin 64) (p : Plan), table.get e = some p →
        p.minFrameTime ≤ holdTicks ∧ p.phase < p.divisor ∧ (p.records.map (·.channel)).Nodup ∧
          (p.records.filterMap (·.lane)).Nodup ∧ p.busyTime ≤ holdTicks ∧
          ∃ link, endLink table e = some link ∧ ∀ m, link ≠ .next m)

/-- JOIN makes a STANDBY station LISTENING, or is refused with the first failed check's result. (R73, R121) -/
def Obligations.JoinMakesTheStationListen : Prop :=
  ∀ (b : Byte) (e : Fin 64) (s : State), s.ticking = true →
    (s.membership.state ≠ .standby → exec (.join b) s = .next (s.reply .state)) ∧
    (s.membership.state = .standby → s.timebase.lock ≠ .locked → exec (.join b) s = .next (s.reply .state)) ∧
    (s.membership.state = .standby → s.timebase.lock = .locked →
      (63 < b.toNat → exec (.join b) s = .next (s.reply .range)) ∧
      (s.verifier ≠ .pass → exec (.join (byte e.val)) s = .next (s.reply .unverified)) ∧
      (s.verifier = .pass → s.plan? e = none → exec (.join (byte e.val)) s = .next (s.reply .range)) ∧
      (s.verifier = .pass → (s.plan? e).isSome = true →
        exec (.join (byte e.val)) s =
          .next ({ s with
            membership :=
              { state := .listening, fault := none, pendingLeave := none, joinSegment := some e, adopted := none, quiet := 0
                foreignHeard := false, founder := false, leavingFrame := false }
            barrier := { s.barrier with phase := .watching, stallStart := some s.now } }.reply .accepted)))

/-- A LEAVE of any mode in LISTENING, FOUNDING or JOINING makes the station STANDBY at the command. (R12, R27, R89,
R90) The model's choices in it: log entry 13. -/
def Obligations.LeaveBeforeFlushingEntersStandby : Prop :=
  ∀ (c : Instr) (s : State), (c = .leaveFrameEnd ∨ c = .leaveSegmentEnd ∨ c = .leaveImmediate) → s.ticking = true →
    (s.membership.state = .listening ∨ s.membership.state = .founding ∨ s.membership.state = .joining) →
    ∃ t, exec c s = .next t ∧ t.port.result = some .accepted ∧ t.port.data = [] ∧
      t.membership =
        { state := .standby, fault := none, pendingLeave := none, joinSegment := none, adopted := none, quiet := 0
          foreignHeard := false, founder := false, leavingFrame := false } ∧
      t.barrier.phase = .dormant ∧ t.barrier.pulled = false ∧ t.barrier.frameNo = 0 ∧ t.barrier.stallStart = none ∧
      t.barrier.pulseStart = none ∧ t.barrier.lows = s.barrier.lows ∧ t.barrier.highs = s.barrier.highs ∧
      t.roster = {} ∧ t.resolver = {} ∧ t.cursor = {} ∧ t.epochs = {} ∧ t.sequencer = {} ∧
      (∀ c, t.generators.get c = {}) ∧ t.transceiver.windowOpen = false ∧
      t.transceiver =
        { windowStart :=
            if s.transceiver.parting.isSome = true ∨
                (s.membership.state ≠ .joining ∧ s.transceiver.sending.isSome = true ∧ s.transceiver.windowOpen = false) then
              s.transceiver.windowStart
            else none
          parting := s.transceiver.parting
          sending :=
            if s.membership.state = .joining then none
            else s.transceiver.sending.map fun x => { x with judged := false } } ∧
      (s.membership.state = .joining → t.transceiver.sending = none) ∧
      t.log = s.log.append { body := .left, frame := s.barrier.frameNo, epoch := s.epochs.epoch } ∧
      t.table = s.table ∧ t.verifier = s.verifier ∧ t.profile = s.profile ∧ t.store = s.store ∧ t.digest = s.digest ∧
      t.timebase = s.timebase ∧ t.now = s.now

/-- LEAVE(FRAME_END) makes the current or the next frame the leaving frame. (R84, R85, R87) The model's choices in it:
log entries 18, 45. -/
def Obligations.LeaveAtFrameEndPicksItsLeavingFrame : Prop :=
  ∀ s : State, s.ticking = true →
    (s.slotPassed = true ↔ s.transceiver.ownPassed = true ∨ s.transceiver.windowOpen = false) ∧
    ((s.membership.state = .flushing ∨ s.membership.state = .active) →
      (s.membership.pendingLeave = some .frameEnd → exec .leaveFrameEnd s = .next (s.reply .accepted)) ∧
      (s.membership.pendingLeave ≠ some .frameEnd → s.slotPassed = true →
        exec .leaveFrameEnd s =
          .next ({ s with
            membership := { s.membership with pendingLeave := some .frameEnd, leavingFrame := false } }.reply .accepted)) ∧
      (s.membership.pendingLeave ≠ some .frameEnd → s.slotPassed = false →
        exec .leaveFrameEnd s =
          .next ({ s with
            membership := { s.membership with state := .leaving, pendingLeave := none, leavingFrame := false }
            epochs :=
              { s.epochs with
                ready := none
                deferred := false
                turn := if s.epochs.turn = TurnState.catchingUp then .idle else s.epochs.turn }
            cursor := { s.cursor with lookahead := some .leave } }.reply .accepted))) ∧
    ((s.membership.state = .unconfigured ∨ s.membership.state = .standby ∨ s.membership.state = .detached ∨
        s.membership.state = .leaving) →
      exec .leaveFrameEnd s = .next (s.reply .state))

/-- LEAVE(SEGMENT_END) waits for the end of the pass, or acts as LEAVE(FRAME_END) where none is left. (R84, R86, R127)
The model's choices in it: log entry 32. -/
def Obligations.LeaveAtSegmentEndWaitsForThePass : Prop :=
  ∀ s : State, s.ticking = true →
    (s.membership.state = .active → s.membership.pendingLeave = none →
      (s.cursor.parked = true ∨ s.cursor.lastRepetition = true) →
      exec .leaveSegmentEnd s = exec .leaveFrameEnd s) ∧
    ((s.membership.state = .flushing ∨
        (s.membership.state = .active ∧ s.cursor.parked = false ∧ s.cursor.lastRepetition = false)) →
      s.membership.pendingLeave = none →
      ∃ marker : Bool,
        exec .leaveSegmentEnd s =
          .next ({ s with
            membership := { s.membership with pendingLeave := some .segmentEnd, leavingFrame := marker } }.reply
              .accepted) ∧
        (marker = true ↔
          ∃ e p, s.cursor.lookahead = some (.apply e) ∧ s.plan? e = some p ∧ (∀ n, p.link ≠ .next n) ∧
            s.cursor.repeatsLeft = 1)) ∧
    ((s.membership.state = .flushing ∨ s.membership.state = .active) →
      (s.membership.pendingLeave = some .segmentEnd → exec .leaveSegmentEnd s = .next (s.reply .accepted)) ∧
      (s.membership.pendingLeave = some .frameEnd → exec .leaveSegmentEnd s = .next (s.reply .state))) ∧
    ((s.membership.state = .unconfigured ∨ s.membership.state = .standby ∨ s.membership.state = .detached ∨
        s.membership.state = .leaving) →
      exec .leaveSegmentEnd s = .next (s.reply .state))

/-- LEAVE(IMMEDIATE) drains a held frame or enters STANDBY at the command. (R11, R27, R88, R90, R154, R158, R164) The
model's choices in it: log entries 9, 18, 42, 43, 50. -/
def Obligations.LeaveAtOnceDrainsOrEntersStandby : Prop :=
  ∀ s : State, s.ticking = true →
    ((s.membership.state = .flushing ∨ s.membership.state = .active ∨ s.membership.state = .leaving) →
      (s.barrier.phase = .draining → exec .leaveImmediate s = .next (s.reply .accepted)) ∧
      ((s.barrier.phase = .holding ∨ s.barrier.phase = .released ∨ s.barrier.phase = .watching) →
        ∃ t, exec .leaveImmediate s = .next t ∧ t.port.result = some .accepted ∧ t.sequencer.xtrig = false ∧
          t.sequencer.headWord = none ∧ t.sequencer.schedule = [] ∧ t.transceiver.windowOpen = false ∧
          t.transceiver.parting =
            (if s.slotPassed then none
              else some
                { index := s.prof.index, kind := .leave, sender := .leaving, ready := false, catchup := false
                  frame := s.barrier.frameNo, epoch := s.epochs.epoch, digest := s.digest, claims := [] }) ∧
          (s.barrier.phase = .holding →
            (∃ c r, (s.generators.get c).phase = .on ∧ (s.generators.get c).record = some r ∧ r.cutPolicy = .complete) →
            t.membership.state = .leaving ∧ t.barrier.phase = .draining ∧ t.barrier.pulled = s.barrier.pulled ∧
              t.barrier.holdStart = s.barrier.holdStart ∧
              (∀ c,
                let g := s.generators.get c
                let cut : Generator := { g with phase := .cut, phaseEnd := none, outcome := some .cut }
                ((g.phase = .done ∨ g.phase = .cut) → t.generators.get c = g) ∧
                ((g.phase = .wait ∨ g.phase = .delay ∨ g.phase = .off) → t.generators.get c = cut) ∧
                (g.phase = .on → ∀ r, g.record = some r →
                  (r.cutPolicy = .complete → t.generators.get c = g) ∧
                  (r.cutPolicy = .truncate → t.generators.get c = cut))) ∧
              t.log = s.log ∧ t.epochs.ready = none ∧ t.roster = s.roster ∧ t.resolver = s.resolver) ∧
          ((s.barrier.phase ≠ .holding ∨
              ∀ c r, (s.generators.get c).phase = .on → (s.generators.get c).record = some r →
                r.cutPolicy = .truncate) →
            t.membership.state = .standby ∧ t.barrier.phase = .dormant ∧ t.barrier.pulled = false ∧
              t.barrier.frameNo = 0 ∧ t.roster.members = [] ∧ t.resolver.table = none ∧ t.cursor.segment = none ∧
              t.epochs.epoch = 0 ∧ t.epochs.staged = none ∧
              t.log =
                (s.cutGenerators.frameRecord true ++
                  [({ body := .left, frame := s.barrier.frameNo, epoch := s.epochs.epoch } : Record)]).foldl
                  StationLog.append s.log) ∧
          t.table = s.table ∧ t.verifier = s.verifier ∧ t.profile = s.profile ∧ t.timebase = s.timebase)) ∧
    ((s.membership.state = .unconfigured ∨ s.membership.state = .standby ∨ s.membership.state = .detached) →
      exec .leaveImmediate s = .next (s.reply .state))

/-- RESTART returns the station to STANDBY or UNCONFIGURED from every state. (R12, R94, R120) The model's choices in
it: log entry 43. -/
def Obligations.RestartReturnsTheStation : Prop :=
  ∀ s : State, s.ticking = true →
    ∃ t, exec .restart s = .next t ∧ t.port.result = some .accepted ∧
      t.membership =
        { state := if s.profile.isSome then .standby else .unconfigured, fault := none, pendingLeave := none
          joinSegment := none, adopted := none, quiet := 0, foreignHeard := false, founder := false
          leavingFrame := false } ∧
      t.barrier.phase = .dormant ∧ t.barrier.pulled = false ∧ t.barrier.frameNo = 0 ∧
      t.barrier.lows = s.barrier.lows ∧ t.barrier.highs = s.barrier.highs ∧ t.transceiver = {} ∧ t.roster = {} ∧
      t.resolver = {} ∧ t.cursor = {} ∧ t.epochs = {} ∧ t.sequencer = {} ∧
      (∀ c, t.generators.get c = {}) ∧
      (∀ since, s.verifier = .running since → t.verifier = .idle none) ∧
      ((∀ since, s.verifier ≠ .running since) → t.verifier = s.verifier) ∧
      t.log =
        ((if s.membership.state.participant then s.cutGenerators.frameRecord true else []) ++
          [({ body := .restart, frame := s.barrier.frameNo, epoch := s.epochs.epoch } : Record)]).foldl StationLog.append s.log ∧
      t.table = s.table ∧ t.profile = s.profile ∧ t.store = s.store ∧ t.digest = s.digest ∧ t.timebase = s.timebase

/-- CLEAR FAULT makes a DETACHED station STANDBY and is refused elsewhere. (R93) -/
def Obligations.ClearFaultLeavesDetached : Prop :=
  ∀ s : State, s.ticking = true →
    (s.membership.state = .detached →
      exec .clearFault s =
        .next ({ s with membership := { s.membership with state := .standby, fault := none } }.reply .accepted) ∧
      ({ s with membership := { s.membership with state := .standby, fault := none } }.reply .accepted).attn =
        s.log.queue.any s.attends ∧
      (s.timebase.lock ≠ .locked → ∀ start,
        ∃ t, exec (.join start) ({ s with membership := { s.membership with state := .standby, fault := none } }.reply
          .accepted) = .next t ∧ t.port.result = some .state ∧ t.membership.state = .standby)) ∧
    (s.membership.state ≠ .detached → exec .clearFault s = .next (s.reply .state))

/-- STAGE sets and UNSTAGE clears the staged segment, each by its checks in order. (R130, R131) -/
def Obligations.StageAndUnstageSetTheStagedSegment : Prop :=
  ∀ (b : Byte) (e : Fin 64) (s : State), s.ticking = true →
    ((s.membership.state = .unconfigured ∨ s.membership.state = .leaving ∨ s.membership.state = .detached ∨
        s.membership.pendingLeave.isSome = true ∨ s.epochs.ready.isSome = true) →
      exec (.stage b) s = .next (s.reply .state)) ∧
    ((s.membership.state ≠ .unconfigured ∧ s.membership.state ≠ .leaving ∧ s.membership.state ≠ .detached ∧
        s.membership.pendingLeave = none ∧ s.epochs.ready = none) →
      (63 < b.toNat → exec (.stage b) s = .next (s.reply .range)) ∧
      (s.verifier ≠ .pass → exec (.stage (byte e.val)) s = .next (s.reply .unverified)) ∧
      (s.verifier = .pass → s.plan? e = none → exec (.stage (byte e.val)) s = .next (s.reply .range)) ∧
      (s.verifier = .pass → (s.plan? e).isSome = true →
        exec (.stage (byte e.val)) s =
          .next ({ s with epochs := { s.epochs with staged := some e } }.reply .accepted))) ∧
    ((s.membership.state = .unconfigured ∨ s.membership.state = .detached ∨ s.epochs.ready.isSome = true) →
      exec .unstage s = .next (s.reply .state)) ∧
    ((s.membership.state ≠ .unconfigured ∧ s.membership.state ≠ .detached ∧ s.epochs.ready = none) →
      exec .unstage s = .next ({ s with epochs := { s.epochs with staged := none } }.reply .accepted))

/-- READY sets the ready flag with its mode in ACTIVE; UNREADY withdraws it, or defers once the note has carried
READY. (R132, R133) The model's choices in it: log entries 11, 36. -/
def Obligations.ReadyAndUnreadySetAndWithdrawTheReadyFlag : Prop :=
  (∀ s : State, s.ticking = true →
      ((s.membership.state = .active ∧ s.membership.pendingLeave = none ∧
          (s.epochs.ready = none ∨ s.epochs.ready = some .keep)) →
        exec .readyKeep s = .next ({ s with epochs := { s.epochs with ready := some .keep } }.reply .accepted)) ∧
      ((s.membership.state ≠ .active ∨ s.membership.pendingLeave.isSome = true ∨ s.epochs.ready = some .switch) →
        exec .readyKeep s = .next (s.reply .state)) ∧
      ((s.membership.state = .active ∧ s.membership.pendingLeave = none ∧ s.epochs.staged.isSome = true ∧
          (s.epochs.ready = none ∨ s.epochs.ready = some .switch)) →
        exec .readySwitch s = .next ({ s with epochs := { s.epochs with ready := some .switch } }.reply .accepted)) ∧
      ((s.membership.state ≠ .active ∨ s.membership.pendingLeave.isSome = true ∨ s.epochs.ready = some .keep ∨
          s.epochs.staged = none) →
        exec .readySwitch s = .next (s.reply .state))) ∧
  ∀ s : State, s.ticking = true →
    (s.readyOut = true ↔
      s.transceiver.windowOpen = true ∧ s.transceiver.ownPassed = true ∧
        ∃ n, s.transceiver.image = some n ∧ n.ready = true) ∧
    ((s.membership.state = .unconfigured ∨ s.membership.state = .detached ∨ s.epochs.turn ≠ .idle) →
      exec .unready s = .next (s.reply .state)) ∧
    ((s.membership.state ≠ .unconfigured ∧ s.membership.state ≠ .detached ∧ s.epochs.turn = .idle) →
      (s.epochs.ready = none → exec .unready s = .next (s.reply .accepted)) ∧
      (s.epochs.ready.isSome = true → s.readyOut = false →
        exec .unready s =
          .next ({ s with epochs := { s.epochs with ready := none, deferred := false } }.reply .accepted)) ∧
      (s.epochs.ready.isSome = true → s.readyOut = true →
        exec .unready s = .next ({ s with epochs := { s.epochs with deferred := true } }.reply .accepted)))

/-- A mark taken in LISTENING counts the frame only after adoption, restarts the listen timer and opens a window. (R2,
R3, R4, R13, R14, R23, R35, R45, R48, R51, R74, R140) The model's choices in it: log entries 19, 20. -/
def Obligations.ListenerTakesAMark : Prop :=
  ∀ s : State, s.ticking = true → s.risesNow = true → s.transceiver.windowOpen = false →
    s.barrier.phase = .watching → s.membership.state = .listening →
    let number := if s.membership.adopted.isSome then s.barrier.frameNo + 1 else s.barrier.frameNo
    let left : List Record := (s.roster.members.filter fun m => m.removal == .left).map fun m =>
        { body := .memberLeft m.index, frame := (m.stamp.getD (s.barrier.frameNo, s.epochs.epoch)).1
          epoch := (m.stamp.getD (s.barrier.frameNo, s.epochs.epoch)).2 }
    ∃ t, exec .frameMark s = .next t ∧ t.barrier.frameNo = number ∧
      t.barrier.stallStart = some s.now ∧ t.barrier.stallReported = false ∧ t.barrier.lows = 0 ∧ t.barrier.highs = 0 ∧
      t.barrier.phase = .watching ∧ t.barrier.pulled = s.barrier.pulled ∧ t.barrier.pullDue = false ∧
      t.membership = s.membership ∧ t.now = s.now ∧
      t.transceiver.windowOpen = true ∧ t.transceiver.windowStart = some s.now ∧ t.transceiver.ownPassed = false ∧
      (∀ slot, t.outcomeOf slot = .pending) ∧ t.transceiver.foreignSet = 0 ∧ t.transceiver.closedEarly = false ∧
      t.transceiver.parting = none ∧ t.roster = s.roster.atMark ∧
      t.roster.members =
        ((s.roster.members.filter fun m => m.removal == .none).map fun m => { m with expected := m.state != .lost }) ∧
      (∀ i : Fin 16, t.roster.required.getLsbD i.val = true ↔ ∃ m ∈ t.roster.members, m.index = i ∧ m.state = .active) ∧
      (∀ i : Fin 16, t.roster.settled.getLsbD i.val = true ↔
        ∃ m ∈ t.roster.members, m.index = i ∧ (m.state = .active ∨ m.state = .leaving)) ∧
      t.roster.view = s.roster.view ∧
      (∃ rs : List Record,
        rs.Perm
          (left ++
            if s.barrier.stallReported then [{ body := .resumed, frame := number, epoch := s.epochs.epoch }] else []) ∧
        left.Sublist rs ∧ t.log = rs.foldl StationLog.append s.log) ∧
      t.cursor = s.cursor ∧ t.epochs = { s.epochs with announced := false } ∧ t.resolver = s.resolver ∧
      t.sequencer = s.sequencer ∧ t.generators = s.generators ∧ t.table = s.table ∧ t.verifier = s.verifier ∧
      t.port = s.port ∧ t.profile = s.profile ∧ t.timebase = s.timebase

/-- The first mark in JOINING, and the founder's mark, start the flush frame of the join segment. (R3, R5, R14, R62,
R57, R78, R79, R82, R123, R126, R127, R145) The model's choices in it: log entries 8, 10, 19, 20. -/
def Obligations.FirstMarkStartsTheFlushFrame : Prop :=
  ∀ (e : Fin 64) (p : Plan) (s : State), s.ticking = true → s.risesNow = true → s.transceiver.windowOpen = false →
    s.barrier.phase = .watching → s.membership.joinSegment = some e → s.plan? e = some p →
    s.epochs.turn = .idle →
    (s.membership.state = .joining ∨ s.membership.state = .founding) →
    let left : List Record := (s.roster.members.filter fun m => m.removal == .left).map fun m =>
        { body := .memberLeft m.index, frame := (m.stamp.getD (s.barrier.frameNo, s.epochs.epoch)).1
          epoch := (m.stamp.getD (s.barrier.frameNo, s.epochs.epoch)).2 }
    ∃ t, exec .frameMark s = .next t ∧
      t.membership.state = .flushing ∧
      (s.membership.state = .joining →
        t.barrier.frameNo = s.barrier.frameNo + 1 ∧ t.membership.founder = false ∧
          t.resolver = s.resolver) ∧
      (s.membership.state = .founding →
        t.barrier.frameNo = 0 ∧ t.membership.founder = true ∧
          t.resolver = { s.resolver with turnMark := false, inUse := 0, inUseFrame := some 0 }) ∧
      (∃ rs : List Record,
        rs.Perm
          (left ++
            (if s.barrier.stallReported then
              [{ body := .resumed, frame := t.barrier.frameNo, epoch := s.epochs.epoch }]
            else []) ++
            (if s.membership.state = StationState.founding then
              [{ body := .founded, frame := 0, epoch := s.epochs.epoch }]
            else [])) ∧
        left.Sublist rs ∧ t.log = rs.foldl StationLog.append s.log) ∧
      t.membership.pendingLeave =
        (if p.link = .depart ∧ s.membership.pendingLeave = none then some .segmentEnd else s.membership.pendingLeave) ∧
      (t.membership.leavingFrame = true ↔
        t.membership.pendingLeave = some .segmentEnd ∧ p.repeatCount = 1 ∧ t.cursor.lookahead = some (.apply e) ∧
          ∀ n, p.link ≠ .next n) ∧
      t.cursor.loopsLeft = startLoops s.table e ∧
      (∀ (path : List (Fin 64)) (last : Fin 64) (q : Plan), path.Nodup → path.head? = some e →
        (∀ k a b, path[k]? = some a → path[k + 1]? = some b → ∃ x, s.plan? a = some x ∧ x.link = .next b) →
        path.getLast? = some last → s.plan? last = some q → (∀ n, q.link ≠ .next n) →
        (∀ n, q.link = .repeats (n + 1) → startLoops s.table e = .passes (n + 1)) ∧
          ((∀ n, q.link ≠ .repeats (n + 1)) → startLoops s.table e = .forever)) ∧
      t.barrier.runFrame = t.barrier.frameNo ∧ t.barrier.runEpoch = t.epochs.epoch ∧
      t.barrier.pullDue = true ∧ t.barrier.holdStart = some s.now ∧ t.barrier.stallStart = some s.now ∧
      t.barrier.windowDone = false ∧ t.barrier.minTimeDone = true ∧ t.barrier.exposuresDone = false ∧
      t.barrier.strobesDone = true ∧ t.barrier.late = false ∧
      t.cursor.segment = some e ∧ t.cursor.entry = some e ∧ t.cursor.repeatsLeft = p.repeatCount ∧
      t.cursor.parked = false ∧ t.cursor.headSent = some p.headMode ∧ t.cursor.current = some (.flush e) ∧
      t.cursor.lookahead =
        some (if (t.barrier.frameNo + 1).toNat % p.divisor = p.phase then .apply e else .idle) ∧
      t.sequencer =
        { schedule := [(s.now + p.exposureOffset, s.now + p.exposureOffset + p.exposureTime)], started := 0, made := 0
          skipAt := none, burstSkipped := false, xtrig := false
          headWord := some { mode := p.headMode, code := p.headCode, start := s.now } } ∧
      (∀ c, t.generators.get c = {}) ∧ t.transceiver.windowOpen = true ∧ t.transceiver.windowStart = some s.now ∧
      t.roster = s.roster.atMark ∧ t.epochs.epoch = s.epochs.epoch ∧ t.table = s.table ∧ t.verifier = s.verifier ∧
      t.port = s.port ∧ t.profile = s.profile ∧ t.timebase = s.timebase

/-- A mark at a RELEASED participant begins the frame whose content it held. (R4, R5, R6, R14, R48, R62, R63, R65,
R83, R124, R125, R145) The model's choices in it: log entries 8, 19, 20. -/
def Obligations.ParticipantMarkBeginsTheNextFrame : Prop :=
  ∀ (content : Content) (s : State), s.ticking = true → s.risesNow = true → s.transceiver.windowOpen = false →
    s.barrier.phase = .released → (s.membership.state = .flushing ∨ s.membership.state = .active) →
    (∀ late, s.epochs.turn ≠ .advanceDue late) → s.membership.pendingLeave ≠ some .frameEnd → s.membership.leavingFrame = false →
    s.cursor.lookahead = some content → content ≠ .leave →
    let left : List Record := (s.roster.members.filter fun m => m.removal == .left).map fun m =>
        { body := .memberLeft m.index, frame := (m.stamp.getD (s.barrier.frameNo, s.epochs.epoch)).1
          epoch := (m.stamp.getD (s.barrier.frameNo, s.epochs.epoch)).2 }
    let own : List Record := s.frameRecord false ++
      if s.membership.state = StationState.flushing then
        [{ body := .joined, frame := s.barrier.frameNo + 1, epoch := s.epochs.epoch }]
      else []
    ∃ t, exec .frameMark s = .next t ∧
      t.membership.state = .active ∧ t.barrier.frameNo = s.barrier.frameNo + 1 ∧ t.barrier.pullDue = true ∧
      t.barrier.runFrame = t.barrier.frameNo ∧ t.barrier.runEpoch = t.epochs.epoch ∧
      t.barrier.holdStart = some s.now ∧ t.barrier.stallStart = some s.now ∧ t.barrier.windowDone = false ∧
      t.barrier.late = false ∧ t.cursor.current = some content ∧ t.resolver.turnMark = false ∧
      t.resolver.inUseFrame = some (s.barrier.frameNo + 1) ∧ t.resolver.table = s.resolver.table ∧
      t.transceiver.windowOpen = true ∧ t.transceiver.windowStart = some s.now ∧ t.roster = s.roster.atMark ∧
      t.epochs = { s.epochs with announced := false } ∧
      (∃ rs : List Record,
        rs.Perm
          (own ++ left ++
            if s.barrier.stallReported then
              [{ body := .resumed, frame := s.barrier.frameNo + 1, epoch := s.epochs.epoch }]
            else []) ∧
        own.Sublist rs ∧ left.Sublist rs ∧ t.log = rs.foldl StationLog.append s.log) ∧
      (t.cursor.parked = true → t.cursor.lookahead = some .parked) ∧
      (∀ e p, t.cursor.parked = false → t.cursor.entry = some e → s.plan? e = some p →
        t.cursor.lookahead =
          some
            (if (s.barrier.frameNo + 2).toNat % p.divisor ≠ p.phase then .idle
            else if t.cursor.headSent ≠ some p.headMode then .settle e
            else .apply e)) ∧
      t.sequencer =
        { schedule := t.sequencer.schedule, started := 0, made := 0, skipAt := none, burstSkipped := false, xtrig := false
          headWord := t.sequencer.headWord } ∧
      ((∀ e, content ≠ .apply e) → (∀ c, t.generators.get c = {}) ∧ t.resolver.inUse = 0) ∧
      (∀ e p, content = .settle e → s.plan? e = some p →
        t.sequencer.schedule = [] ∧
        t.sequencer.headWord = some { mode := p.headMode, code := p.headCode, start := s.now } ∧
        t.cursor.headSent = some p.headMode ∧ t.barrier.minTimeDone = true ∧ t.barrier.exposuresDone = false ∧
        t.barrier.strobesDone = true ∧ t.cursor.entry = s.cursor.entry ∧
        t.cursor.repeatsLeft = s.cursor.repeatsLeft) ∧
      (∀ e p, content = .apply e → s.plan? e = some p →
        (p.dark = true → t.sequencer.schedule = []) ∧
        (p.dark = false →
          t.sequencer.schedule.length = p.burstCount ∧
          ∀ k, k < p.burstCount →
            t.sequencer.schedule[k]? =
              some (s.now + p.exposureOffset + k * (p.exposureTime + p.burstGap),
                s.now + p.exposureOffset + k * (p.exposureTime + p.burstGap) + p.exposureTime)) ∧
        t.sequencer.made = 0 ∧
        t.sequencer.headWord = some { mode := p.headMode, code := p.headCode, start := s.now } ∧
        t.cursor.headSent = some p.headMode ∧ t.barrier.minTimeDone = (p.minFrameTime == 0) ∧
        t.barrier.minTimeDue = (if p.minFrameTime = 0 then none else some (s.now + p.minFrameTime)) ∧
        t.barrier.exposuresDone = p.dark ∧
        ∀ c, p.onChannel c = none → t.generators.get c = {}) ∧
      ((content = .idle ∨ content = .parked ∨ content = .abstain) →
        t.sequencer.schedule = [] ∧ t.sequencer.headWord = none ∧ t.barrier.minTimeDone = true ∧
        t.barrier.exposuresDone = true ∧ t.barrier.strobesDone = true ∧ t.cursor.entry = s.cursor.entry ∧
        t.cursor.repeatsLeft = s.cursor.repeatsLeft) ∧
      t.table = s.table ∧ t.verifier = s.verifier ∧ t.port = s.port ∧ t.profile = s.profile ∧ t.timebase = s.timebase

/-- An APPLY made current consumes a repetition; the last one moves the cursor by link, or parks it. (R86, R102, R126,
R127) -/
def Obligations.RepetitionsRunOutAndMoveTheCursor : Prop :=
  ∀ (e : Fin 64) (p : Plan) (s : State), s.ticking = true → s.risesNow = true → s.transceiver.windowOpen = false →
    s.barrier.phase = .released → (s.membership.state = .flushing ∨ s.membership.state = .active) →
    (∀ late, s.epochs.turn ≠ .advanceDue late) → s.membership.pendingLeave ≠ some .frameEnd → s.membership.leavingFrame = false →
    s.cursor.lookahead = some (.apply e) → s.cursor.entry = some e → s.plan? e = some p →
    ∃ t, exec .frameMark s = .next t ∧ t.cursor.current = some (.apply e) ∧ t.cursor.segment = s.cursor.segment ∧
      (t.cursor.lastRepetition = true ↔ s.cursor.repeatsLeft ≤ 1 ∧ ∀ n, p.link ≠ .next n) ∧
      (2 ≤ s.cursor.repeatsLeft →
        t.cursor.entry = some e ∧ t.cursor.repeatsLeft = s.cursor.repeatsLeft - 1 ∧
        t.cursor.loopsLeft = s.cursor.loopsLeft ∧ t.cursor.parked = s.cursor.parked ∧
        t.membership.pendingLeave = s.membership.pendingLeave) ∧
      (s.cursor.repeatsLeft ≤ 1 →
        (∀ n q, p.link = .next n → s.plan? n = some q →
          t.cursor.entry = some n ∧ t.cursor.repeatsLeft = q.repeatCount ∧ t.cursor.loopsLeft = s.cursor.loopsLeft ∧
          t.cursor.parked = s.cursor.parked ∧
          t.membership.pendingLeave =
            (if q.link = .depart then some .segmentEnd else s.membership.pendingLeave)) ∧
        ((p.link = .park ∨ p.link = .depart) →
          t.cursor.entry = some e ∧ t.cursor.repeatsLeft = 0 ∧ t.cursor.parked = true ∧
          t.cursor.loopsLeft = s.cursor.loopsLeft) ∧
        (∀ k start q, p.link = .repeats k → s.cursor.segment = some start → s.plan? start = some q →
          (s.cursor.loopsLeft = .forever →
            t.cursor.entry = some start ∧ t.cursor.repeatsLeft = q.repeatCount ∧ t.cursor.loopsLeft = .forever ∧
            t.cursor.parked = s.cursor.parked) ∧
          (∀ n, s.cursor.loopsLeft = .passes (n + 2) →
            t.cursor.entry = some start ∧ t.cursor.repeatsLeft = q.repeatCount ∧
            t.cursor.loopsLeft = .passes (n + 1) ∧ t.cursor.parked = s.cursor.parked) ∧
          (s.cursor.loopsLeft = .passes 1 →
            t.cursor.entry = some e ∧ t.cursor.repeatsLeft = 0 ∧ t.cursor.parked = true))) ∧
      (t.membership.leavingFrame = true ↔
        t.membership.pendingLeave = some .segmentEnd ∧ t.cursor.repeatsLeft = 1 ∧
          ∃ n q, t.cursor.lookahead = some (.apply n) ∧ s.plan? n = some q ∧ ∀ m, q.link ≠ .next m)

/-- At an ordinary mark a record on a lane runs only if a complete table of that frame names the own index as winner.
(R62, R63, R64, R65, R150, R151, R152) The model's choices in it: log entry 38. -/
def Obligations.LaneRecordsAreDecidedFromTheGrantTable : Prop :=
  (∀ (p : Plan) (c : Fin 4),
    (∀ r, p.onChannel c = some r → r.channel = c ∧ ∃ k : Fin 4, p.slots.get k = some r) ∧
    (p.onChannel c = none ↔ ∀ (k : Fin 4) r, p.slots.get k = some r → r.channel ≠ c)) ∧
  ∀ (e : Fin 64) (p : Plan) (s : State), s.ticking = true → s.risesNow = true → s.transceiver.windowOpen = false →
    s.barrier.phase = .released →
    (s.membership.state = .flushing ∨ s.membership.state = .active ∨ s.membership.state = .leaving) →
    (∀ late, s.epochs.turn ≠ .advanceDue late) → s.cursor.lookahead = some (.apply e) → s.plan? e = some p →
    ∃ t, exec .frameMark s = .next t ∧ t.resolver.turnMark = false ∧
      t.resolver.inUseFrame = some (s.barrier.frameNo + 1) ∧ t.resolver.table = s.resolver.table ∧
      (let usable (g : GrantTable) : Prop :=
          s.resolver.table = some g ∧ g.frame = s.barrier.frameNo + 1 ∧ g.complete = true
        ∀ c, (p.onChannel c = none → t.generators.get c = {}) ∧
          ∀ r, p.onChannel c = some r →
            (t.generators.get c).record = some r ∧
            (r.lane = none → (t.generators.get c).decision = some .unarbitrated) ∧
            ∀ l, r.lane = some l →
              ((∀ g, ¬ usable g) → (t.generators.get c).decision = some (.denied .forfeit)) ∧
              ∀ g, usable g →
                ((∃ prio, (g.lanes.get l).winner = some (s.prof.index, prio)) →
                  (t.generators.get c).decision = some .granted) ∧
                ((∀ prio, (g.lanes.get l).winner ≠ some (s.prof.index, prio)) →
                  (t.generators.get c).decision = some (.denied .lostArbitration))) ∧
      (∀ l : Fin 8, t.resolver.inUse.getLsbD l.val = true ↔
        ∃ c r, (t.generators.get c).record = some r ∧ r.lane = some l ∧
          (t.generators.get c).decision = some .granted) ∧
      (∀ c r, (t.generators.get c).record = some r →
        let g := t.generators.get c
        (∀ reason, g.decision = some (.denied reason) →
          g.phase = .done ∧ g.phaseEnd = none ∧ g.outcome = some (.denied reason) ∧ g.pulsesLeft = 0) ∧
        ((g.decision = some .granted ∨ g.decision = some .unarbitrated) →
          (r.reference = .mark → r.delay = 0 →
            g.phase = .on ∧ g.pulsesLeft = r.pulses - 1 ∧ g.phaseEnd = some (s.now + r.onTime) ∧ g.outcome = none) ∧
          (r.reference = .mark → r.delay ≠ 0 →
            g.phase = .delay ∧ g.pulsesLeft = r.pulses ∧ g.phaseEnd = some (s.now + r.delay) ∧ g.outcome = none) ∧
          (r.reference ≠ .mark → p.dark = false →
            g.phase = .wait ∧ g.pulsesLeft = r.pulses ∧ g.phaseEnd = none ∧ g.outcome = none) ∧
          (r.reference ≠ .mark → p.dark = true → g.phase = .done ∧ g.outcome = some .notRun))) ∧
      (t.barrier.strobesDone = true ↔ ∀ c, (t.generators.get c).phase = .done ∨ (t.generators.get c).phase = .cut)

/-- A mark with an advance due raises the epoch, applies SWITCH or KEEP, chooses the content anew and makes a turn
frame. (R14, R48, R62, R63, R65, R86, R123, R124, R125, R126, R127, R136) The model's choices in it: log entries 8,
14, 19, 20, 38. -/
def Obligations.AdvanceDueTakesEffectAtTheMark : Prop :=
  ∀ (late : Bool) (mode : ReadyMode) (s : State), s.ticking = true → s.risesNow = true →
    s.transceiver.windowOpen = false → s.barrier.phase = .released → s.membership.state = .active →
    s.epochs.turn = .advanceDue late → s.epochs.ready = some mode → (mode = .switch → s.epochs.staged.isSome = true) →
    let frame : FrameNo := s.barrier.frameNo + 1
    let start : Option (Fin 64) := if mode = .switch then s.epochs.staged else none
    let position : Cursor :=
      match start with
      | some e =>
        { s.cursor with
          segment := some e
          entry := some e
          repeatsLeft := ((s.plan? e).map Plan.repeatCount).getD 0
          loopsLeft := startLoops s.table e
          parked := false }
      | none => s.cursor
    let content : Content :=
      if position.parked then .parked
      else
        match position.entry with
        | none => .idle
        | some e =>
          match s.plan? e with
          | none => .idle
          | some p =>
            if frame.toNat % p.divisor ≠ p.phase then .idle
            else if position.headSent ≠ some p.headMode then .settle e
            else .apply e
    let pending : Option PendingLeave :=
      if s.membership.pendingLeave = none ∧ ((start.bind s.plan?).map Plan.link) = some .depart then some .segmentEnd
      else s.membership.pendingLeave
    let marked : Bool :=
      pending == some .segmentEnd && position.repeatsLeft == 1 &&
        match content with
        | .apply e =>
          match (s.plan? e).map Plan.link with
          | some (.repeats _) | some .park | some .depart => true
          | some (.next _) | none => false
        | _ => false
    let epochs : EpochUnit :=
      { s.epochs with
        epoch := s.epochs.epoch + 1
        staged := if mode = .switch then none else s.epochs.staged
        ready := none
        deferred := false
        turn := .idle }
    let settled : State :=
      { s with
        cursor := { position with lookahead := some content }
        membership := { s.membership with pendingLeave := pending, leavingFrame := marked }
        epochs }
    let own : List Record := s.frameRecord false ++
      [{ body := if late then .epochLate start else .epoch start, frame, epoch := s.epochs.epoch + 1 }]
    let left : List Record := (s.roster.members.filter fun m => m.removal == .left).map fun m =>
        { body := .memberLeft m.index, frame := (m.stamp.getD (s.barrier.frameNo, s.epochs.epoch)).1
          epoch := (m.stamp.getD (s.barrier.frameNo, s.epochs.epoch)).2 }
    ∃ t u, exec .frameMark s = .next t ∧ exec .frameMark settled = .next u ∧
      t.cursor = u.cursor ∧ t.membership = u.membership ∧ t.sequencer = u.sequencer ∧ t.transceiver = u.transceiver ∧
      { t.barrier with strobesDone := u.barrier.strobesDone } = u.barrier ∧
      t.epochs = { epochs with announced := false } ∧ t.barrier.frameNo = frame ∧
      t.barrier.runFrame = frame ∧ t.barrier.runEpoch = s.epochs.epoch + 1 ∧ t.cursor.current = some content ∧
      ((pending = some .frameEnd ∨ marked = true) →
        t.membership.state = .leaving ∧ t.cursor.lookahead = some .leave) ∧
      (¬ (pending = some .frameEnd ∨ marked = true) → t.membership.state = .active) ∧
      t.resolver = { s.resolver with turnMark := true, inUse := 0, inUseFrame := some frame } ∧
      (∀ c r lane, (t.generators.get c).record = some r → r.lane = some lane →
        (t.generators.get c).decision = some (.denied .turn) ∧ (t.generators.get c).phase = .done) ∧
      (∀ c, (t.generators.get c).record = (u.generators.get c).record) ∧
      ((∀ e, content ≠ .apply e) → ∀ c, t.generators.get c = {}) ∧
      (∀ e p, content = .apply e → s.plan? e = some p → ∀ c,
        let g := t.generators.get c
        (p.onChannel c = none → g = {}) ∧
        ∀ r, p.onChannel c = some r →
          g.record = some r ∧
          (∀ lane, r.lane = some lane → g.phaseEnd = none ∧ g.outcome = some (.denied .turn) ∧ g.pulsesLeft = 0) ∧
          (r.lane = none →
            g.decision = some .unarbitrated ∧
            (r.reference = .mark → r.delay = 0 →
              g.phase = .on ∧ g.pulsesLeft = r.pulses - 1 ∧ g.phaseEnd = some (s.now + r.onTime) ∧ g.outcome = none) ∧
            (r.reference = .mark → r.delay ≠ 0 →
              g.phase = .delay ∧ g.pulsesLeft = r.pulses ∧ g.phaseEnd = some (s.now + r.delay) ∧ g.outcome = none) ∧
            (r.reference ≠ .mark → p.dark = false →
              g.phase = .wait ∧ g.pulsesLeft = r.pulses ∧ g.phaseEnd = none ∧ g.outcome = none) ∧
            (r.reference ≠ .mark → p.dark = true → g.phase = .done ∧ g.outcome = some .notRun))) ∧
      (t.barrier.strobesDone = true ↔ ∀ c, (t.generators.get c).phase = .done ∨ (t.generators.get c).phase = .cut) ∧
      (∃ rs : List Record,
        rs.Perm
          (own ++ left ++
            if s.barrier.stallReported then [{ body := .resumed, frame, epoch := s.epochs.epoch + 1 }] else []) ∧
        own.Sublist rs ∧ left.Sublist rs ∧ t.log = rs.foldl StationLog.append s.log) ∧
      t.roster = s.roster.atMark ∧ t.table = s.table ∧ t.verifier = s.verifier ∧ t.profile = s.profile ∧
      t.port = s.port ∧ t.now = s.now

/-- At the mark after LEAVE(FRAME_END), or of a frame marked as the leaving one, the station is LEAVING and runs it.
(R5, R6, R62, R63, R85, R86, R87, R124, R125, R126, R127, R145) The model's choices in it: log entries 8, 16, 19, 20,
32. -/
def Obligations.TheMarkOfTheLeavingFrameMakesTheStationLeaving : Prop :=
  ∀ (content : Content) (s : State), s.ticking = true → s.risesNow = true → s.transceiver.windowOpen = false →
    s.barrier.phase = .released → (s.membership.state = .flushing ∨ s.membership.state = .active) →
    (s.membership.pendingLeave = some .frameEnd ∨ s.membership.leavingFrame = true) →
    (∀ late, s.epochs.turn ≠ .advanceDue late) → s.cursor.lookahead = some content → content ≠ .leave →
    let left : List Record := (s.roster.members.filter fun m => m.removal == .left).map fun m =>
        { body := .memberLeft m.index, frame := (m.stamp.getD (s.barrier.frameNo, s.epochs.epoch)).1
          epoch := (m.stamp.getD (s.barrier.frameNo, s.epochs.epoch)).2 }
    ∃ t, exec .frameMark s = .next t ∧
      t.membership.state = .leaving ∧ t.membership.pendingLeave = none ∧ t.membership.leavingFrame = false ∧
      t.epochs.ready = none ∧ t.epochs.turn = .idle ∧ t.cursor.current = some content ∧
      t.cursor.lookahead = some .leave ∧ t.barrier.frameNo = s.barrier.frameNo + 1 ∧ t.barrier.pullDue = true ∧
      t.barrier.runFrame = t.barrier.frameNo ∧ t.barrier.runEpoch = t.epochs.epoch ∧
      t.barrier.holdStart = some s.now ∧ t.barrier.stallStart = some s.now ∧ t.barrier.windowDone = false ∧
      t.barrier.late = false ∧ t.resolver.turnMark = false ∧ t.resolver.inUseFrame = some (s.barrier.frameNo + 1) ∧
      t.transceiver.windowOpen = true ∧ t.transceiver.windowStart = some s.now ∧ t.epochs.epoch = s.epochs.epoch ∧
      t.cursor.segment = s.cursor.segment ∧
      (∃ rs : List Record,
        rs.Perm
          (s.frameRecord false ++ left ++
            if s.barrier.stallReported then
              [{ body := .resumed, frame := s.barrier.frameNo + 1, epoch := s.epochs.epoch }]
            else []) ∧
        left.Sublist rs ∧ t.log = rs.foldl StationLog.append s.log) ∧
      t.sequencer =
        { schedule := t.sequencer.schedule, started := 0, made := 0, skipAt := none, burstSkipped := false, xtrig := false
          headWord := t.sequencer.headWord } ∧
      ((∀ e, content ≠ .apply e) → (∀ c, t.generators.get c = {}) ∧ t.resolver.inUse = 0) ∧
      t.resolver.table = s.resolver.table ∧
      (∀ e p, content = .settle e → s.plan? e = some p →
        t.sequencer.schedule = [] ∧
        t.sequencer.headWord = some { mode := p.headMode, code := p.headCode, start := s.now } ∧
        t.cursor.headSent = some p.headMode ∧ t.barrier.minTimeDone = true ∧ t.barrier.exposuresDone = false ∧
        t.barrier.strobesDone = true ∧ t.cursor.entry = s.cursor.entry ∧
        t.cursor.repeatsLeft = s.cursor.repeatsLeft) ∧
      (∀ e p, content = .apply e → s.plan? e = some p →
        (p.dark = true → t.sequencer.schedule = []) ∧
        (p.dark = false →
          t.sequencer.schedule.length = p.burstCount ∧
          ∀ k, k < p.burstCount →
            t.sequencer.schedule[k]? =
              some (s.now + p.exposureOffset + k * (p.exposureTime + p.burstGap),
                s.now + p.exposureOffset + k * (p.exposureTime + p.burstGap) + p.exposureTime)) ∧
        t.sequencer.made = 0 ∧
        t.sequencer.headWord = some { mode := p.headMode, code := p.headCode, start := s.now } ∧
        t.cursor.headSent = some p.headMode ∧ t.barrier.minTimeDone = (p.minFrameTime == 0) ∧
        t.barrier.minTimeDue = (if p.minFrameTime = 0 then none else some (s.now + p.minFrameTime)) ∧
        t.barrier.exposuresDone = p.dark ∧
        ∀ c, p.onChannel c = none → t.generators.get c = {}) ∧
      ((content = .idle ∨ content = .parked ∨ content = .abstain) →
        t.sequencer.schedule = [] ∧ t.sequencer.headWord = none ∧ t.barrier.minTimeDone = true ∧
        t.barrier.exposuresDone = true ∧ t.barrier.strobesDone = true ∧ t.cursor.entry = s.cursor.entry ∧
        t.cursor.repeatsLeft = s.cursor.repeatsLeft) ∧
      (∀ e p, content = .apply e → s.cursor.entry = some e → s.plan? e = some p →
        (t.cursor.lastRepetition = true ↔ s.cursor.repeatsLeft ≤ 1 ∧ ∀ n, p.link ≠ .next n) ∧
        (2 ≤ s.cursor.repeatsLeft →
          t.cursor.entry = some e ∧ t.cursor.repeatsLeft = s.cursor.repeatsLeft - 1 ∧
          t.cursor.loopsLeft = s.cursor.loopsLeft ∧ t.cursor.parked = s.cursor.parked) ∧
        (s.cursor.repeatsLeft ≤ 1 →
          (∀ n q, p.link = .next n → s.plan? n = some q →
            t.cursor.entry = some n ∧ t.cursor.repeatsLeft = q.repeatCount ∧ t.cursor.loopsLeft = s.cursor.loopsLeft ∧
            t.cursor.parked = s.cursor.parked) ∧
          ((p.link = .park ∨ p.link = .depart) →
            t.cursor.entry = some e ∧ t.cursor.repeatsLeft = 0 ∧ t.cursor.parked = true ∧
            t.cursor.loopsLeft = s.cursor.loopsLeft) ∧
          (∀ k start q, p.link = .repeats k → s.cursor.segment = some start → s.plan? start = some q →
            (s.cursor.loopsLeft = .forever →
              t.cursor.entry = some start ∧ t.cursor.repeatsLeft = q.repeatCount ∧ t.cursor.loopsLeft = .forever ∧
              t.cursor.parked = s.cursor.parked) ∧
            (∀ n, s.cursor.loopsLeft = .passes (n + 2) →
              t.cursor.entry = some start ∧ t.cursor.repeatsLeft = q.repeatCount ∧
              t.cursor.loopsLeft = .passes (n + 1) ∧ t.cursor.parked = s.cursor.parked) ∧
            (s.cursor.loopsLeft = .passes 1 →
              t.cursor.entry = some e ∧ t.cursor.repeatsLeft = 0 ∧ t.cursor.parked = true)))) ∧
      t.roster = s.roster.atMark ∧ t.table = s.table ∧ t.profile = s.profile

/-- A mark that finds a window open closes it early: the rest of the list SILENT, the handoff, then the mark. (R24,
R27, R35, R37, R50) The model's choices in it: log entries 2, 12, 28. -/
def Obligations.MarkClosesAnOpenWindowFirst : Prop :=
  ∀ s : State, s.ticking = true → s.risesNow = true → s.transceiver.windowOpen = true → s.barrier.phase ≠ .holding →
    let cut : State :=
      { s with
        transceiver :=
          { s.transceiver with
            sending := none
            closedEarly := true
            receipt := Vector.ofFn fun slot =>
              if s.outcomeOf slot ≠ .pending ∨ s.prof.width ≤ slot.val then s.outcomeOf slot
              else if slot = s.prof.index then .notSent
              else .silent } }
    let closed := cut.handoff
    exec .frameMark s = exec .frameMark closed ∧ closed.risesNow = true ∧ closed.ticking = true ∧
      closed.transceiver.windowOpen = false ∧ closed.now = s.now ∧ closed.table = s.table ∧ closed.port = s.port ∧
      (s.windowEndTick ≤ s.now → s.timebase.settle ≤ 2000 → exec .windowEnd cut = .next closed) ∧
    (∀ start late, s.transceiver.windowStart = some start → start + s.prof.width * s.prof.slotTime ≤ late →
      s.timebase.settle ≤ 2000 →
      exec .windowEnd { cut with now := late } = .next { closed with now := late }) ∧
    (∀ cause, cut.endFault = some cause →
      closed.membership.state = .detached ∧ closed.membership.fault = some cause ∧ closed.barrier.phase = .dormant ∧
      closed.barrier.frameNo = 0 ∧ closed.roster = {} ∧ closed.resolver = {} ∧ closed.cursor = {} ∧ closed.epochs = {}) ∧
      (cut.endFault = none →
        closed.membership.state = s.membership.state ∧ closed.barrier.phase = s.barrier.phase ∧
        closed.barrier.frameNo = cut.numberAfter ∧ closed.roster.view = some false ∧
        closed.transceiver.receipt = cut.transceiver.receipt ∧ closed.transceiver.sending = none ∧
        (s.membership.state.judgesSplit = true → ∃ g, closed.resolver.table = some g ∧ g.complete = false) ∧
        ∃ rs : List Record, rs.Perm cut.endRecords.flatten ∧ closed.log = rs.foldl StationLog.append s.log)

/-- FRAME is sampled once per tick; a mark needs two high samples right after two low ones; DORMANT takes no action on
it. (R1, R2, R3) The model's choices in it: log entries 4, 25. -/
def Obligations.FrameSamplesBuildTheMarkHistory : Prop :=
  ∀ (high : Bool) (s : State),
    (s.ticking = false →
      exec (.frameLevelChange high) s = .next { s with frameIn := high } ∧ exec .frameMark s = .next s) ∧
    (s.ticking = true → s.barrier.sampled = true →
      exec (.frameLevelChange high) s = exec (.frameLevelChange high) (s.elapse 1) ∧
      exec .frameMark s = exec .frameMark (s.elapse 1)) ∧
    (s.ticking = true → s.barrier.sampled = false →
      let rise := s.barrier.lows = 2 ∧ s.barrier.highs = 1 ∧ s.barrier.pulled = false ∧ s.barrier.pullDue = false
      (rise ↔ s.risesNow = true) ∧
      exec (.frameLevelChange true) s = exec .frameMark s ∧
      (¬ (high = true ∧ rise) →
        exec (.frameLevelChange high) s =
          .next { s with frameIn := high, barrier := { s.barrier with sampled := true } })) ∧
    (s.ticking = true → s.risesNow = true → s.barrier.phase = .dormant → s.transceiver.windowOpen = false →
      exec .frameMark s =
        .next { s with
          frameIn := true, barrier := { s.barrier with lows := 0, highs := 0, sampled := true, marked := true } }) ∧
    (s.inOrder = true →
      (s.barrier.phase = .dormant →
        s.transceiver.windowOpen = false ∧
        (s.membership.state = .unconfigured ∨ s.membership.state = .standby ∨ s.membership.state = .detached)) ∧
      ((s.barrier.phase = .pulsing ∨ s.barrier.phase = .holding ∨ s.barrier.phase = .draining) →
        s.risesNow = false)) ∧
    (let low := s.frameIn = false ∨ s.barrier.pulled = true;
      (s.elapse 1).barrier =
        { s.barrier with
          lows :=
            if low then (if s.barrier.highs = 0 then min 2 (s.barrier.lows + 1) else 1)
            else if s.barrier.lows = 2 ∧ s.barrier.highs = 0 then 2
            else 0
          highs := if ¬ low ∧ s.barrier.lows = 2 ∧ s.barrier.highs = 0 then 1 else 0
          sampled := false
          marked := false }) ∧
    ∀ k, s.elapse (k + 1) = (s.elapse k).elapse 1

/-- Every output pin shows the state: ATTN, FRAME, the halves of NOTE, XTRIG, the eleven bits of HCODE, the strobes,
MISO. (R1, R21, R144, R151, R168, R169, 11.8 Pins) The model's choices in it: log entry 5. -/
def Obligations.OutputPinsShowTheState : Prop :=
  ∀ s : State,
    (s.pins.attn = true ↔
      s.membership.state = .detached ∨
        ∃ r ∈ s.log.queue, s.prof.attention.getLsbD (r.encode.getD 0 0).toNat = true) ∧
    s.pins.framePulled = s.barrier.pulled ∧ s.pins.xtrig = s.sequencer.xtrig ∧
    s.pins.misoDriven = s.port.selected ∧
    (∀ c, s.pins.strobes.get c = true ↔ (s.generators.get c).phase = .on) ∧
    (s.sequencer.headWord = none → s.pins.hcode = false) ∧
    (∀ w, s.sequencer.headWord = some w →
      (s.now = w.start → s.pins.hcode = true) ∧
      (s.now = w.start + 1 → (s.pins.hcode = true ↔ 2 ≤ w.mode.val)) ∧
      (s.now = w.start + 2 → (s.pins.hcode = true ↔ w.mode.val % 2 = 1)) ∧
      (∀ k, k < 8 → s.now = w.start + 3 + k → s.pins.hcode = w.code.getMsbD k) ∧
      (w.start + 11 ≤ s.now → s.pins.hcode = false)) ∧
    (s.transceiver.sending = none → s.pins.noteReleased = (true, true)) ∧
    ∀ x, s.transceiver.sending = some x →
      (∀ k byte, x.note.encode[k / 8]? = some byte → s.now = x.start + k →
        s.pins.noteReleased = if byte.getMsbD (k % 8) then (true, false) else (false, true)) ∧
      (x.start + 8 * (14 + x.note.claims.length) ≤ s.now → s.pins.noteReleased = (true, true))

/-- At the tick after the mark a participant pulls FRAME and enters HOLDING. (R5) The model's choices in it: log
entries 2, 24. -/
def Obligations.ParticipantPullsFrameAfterTheMark : Prop :=
  ∀ s : State, s.ticking = true →
    (s.barrier.pullDue = true →
      ∃ t, exec .participantPull s = .next t ∧ t.now = max s.now (s.barrier.markTick + 1) ∧ t.barrier.pulled = true ∧
        t.barrier.phase = .holding ∧ t.barrier.pullDue = false ∧ t.barrier.frameNo = s.barrier.frameNo ∧
        t.barrier.holdStart = s.barrier.holdStart ∧ t.barrier.windowDone = s.barrier.windowDone ∧
        t.barrier.minTimeDone = s.barrier.minTimeDone ∧ t.barrier.exposuresDone = s.barrier.exposuresDone ∧
        t.barrier.strobesDone = s.barrier.strobesDone ∧ t.membership = s.membership ∧ t.transceiver = s.transceiver ∧
        t.roster = s.roster ∧ t.resolver = s.resolver ∧ t.table = s.table ∧ t.verifier = s.verifier ∧
        t.cursor = s.cursor ∧ t.epochs = s.epochs ∧ t.sequencer = s.sequencer ∧ t.generators = s.generators ∧
        t.log = s.log ∧ t.port = s.port) ∧
    (s.barrier.pullDue = false → exec .participantPull s = .next s)

/-- At the hold limit FRAME is released by force, outputs go off and the frame is LATE. (R9, R10, R11, R87, R153,
R158) The model's choices in it: log entries 2, 50. -/
def Obligations.HoldLimitForcesTheRelease : Prop :=
  ∀ (start : Nat) (s : State), s.ticking = true → s.barrier.holdStart = some start →
    (s.barrier.phase = .holding → s.membership.state ≠ .leaving →
      ∃ t, exec .holdLimitExpiry s = .next t ∧ t.now = max s.now (start + s.prof.holdLimit * 1000) ∧
        t.barrier.phase = .released ∧ t.barrier.pulled = false ∧ t.barrier.late = true ∧ t.barrier.holdStart = none ∧
        t.sequencer.xtrig = false ∧ t.sequencer.schedule = [] ∧ t.sequencer.made = s.sequencer.made ∧
        t.sequencer.skipAt = s.sequencer.skipAt ∧
        (∀ c,
          ((s.generators.get c).settled = true → t.generators.get c = s.generators.get c) ∧
          ((s.generators.get c).settled = false →
            (t.generators.get c).phase = .cut ∧ (t.generators.get c).outcome = some .cut ∧
              (t.generators.get c).record = (s.generators.get c).record)) ∧
        t.log = s.log ∧ t.membership = s.membership ∧ t.cursor = s.cursor ∧ t.epochs = s.epochs ∧
        t.resolver = s.resolver ∧ t.roster = s.roster ∧ t.table = s.table ∧ t.port = s.port) ∧
    ((s.barrier.phase = .draining ∨ (s.barrier.phase = .holding ∧ s.membership.state = .leaving)) →
      ∃ t, exec .holdLimitExpiry s = .next t ∧ t.membership.state = .standby ∧ t.barrier.phase = .dormant ∧
        t.barrier.pulled = false ∧ t.barrier.frameNo = 0 ∧ (∀ c, t.generators.get c = {}) ∧
        t.log =
          (({ s.cutGenerators with barrier := { s.barrier with late := true } } : State).frameRecord
              (s.barrier.phase == Phase.draining) ++
            [({ body := .left, frame := s.barrier.frameNo, epoch := s.epochs.epoch } : Record)]).foldl StationLog.append s.log ∧
        t.table = s.table ∧ t.profile = s.profile)

/-- The stall limit: one STALL record until the next mark; in LISTENING the founding pulse of one slot time. (R13,
R15, R41, R79) The model's choices in it: log entry 2. -/
def Obligations.StallsAreReportedOnceAndAListenerFounds : Prop :=
  ∀ (start : Nat) (s : State), s.ticking = true →
    (s.barrier.stallStart = some start →
      ((s.membership.state = .joining ∨ s.membership.state = .flushing ∨ s.membership.state = .active ∨
          s.membership.state = .leaving ∨ s.membership.state = .founding) →
        (s.barrier.phase = .watching ∨ s.barrier.phase = .released) → s.barrier.pullDue = false →
        s.barrier.stallReported = false →
        ∃ t, exec .stallTimerExpiry s = .next t ∧ t.now = max s.now (start + s.prof.stallLimit * 1000) ∧
          t.log = s.log.append { body := .stall, frame := s.barrier.frameNo, epoch := s.epochs.epoch } ∧
          t.barrier.stallReported = true ∧ t.barrier.phase = s.barrier.phase ∧ t.barrier.pulled = s.barrier.pulled ∧
          t.barrier.frameNo = s.barrier.frameNo ∧ t.membership = s.membership ∧ t.transceiver = s.transceiver ∧
          t.roster = s.roster ∧ t.resolver = s.resolver ∧ t.table = s.table ∧ t.verifier = s.verifier ∧
          t.cursor = s.cursor ∧ t.epochs = s.epochs ∧ t.sequencer = s.sequencer ∧ t.generators = s.generators ∧ t.port = s.port) ∧
      (s.barrier.stallReported = true → exec .stallTimerExpiry s = .next s)) ∧
    (s.membership.state = .listening → s.barrier.marked = true → exec .listenTimerExpiry s = .next s) ∧
    (s.membership.state = .listening → s.barrier.marked = false → s.barrier.stallStart = some start →
      ∃ t, exec .listenTimerExpiry s = .next t ∧ t.now = max s.now (start + s.prof.stallLimit * 1000) ∧
        t.membership =
          { s.membership with state := .founding, adopted := none, quiet := 0, foreignHeard := false } ∧
        t.barrier.phase = .pulsing ∧ t.barrier.pulled = true ∧ t.barrier.pulseStart = some t.now ∧
        t.barrier.frameNo = 0 ∧ t.epochs.epoch = 0 ∧ t.epochs.staged = s.epochs.staged ∧ t.roster.members = [] ∧
        t.log = s.log ∧ t.table = s.table ∧ t.cursor = s.cursor ∧ t.port = s.port) ∧
    (s.barrier.phase = .pulsing → s.barrier.pulseStart = some start →
      ∃ t, exec .foundingPulseEnd s = .next t ∧ t.now = max s.now (start + s.prof.slotTime) ∧
        t.barrier.phase = .watching ∧ t.barrier.pulled = false ∧ t.barrier.pulseStart = none ∧
        t.barrier.stallStart = some t.now ∧ t.barrier.frameNo = s.barrier.frameNo ∧ t.membership = s.membership ∧
        t.roster = s.roster ∧ t.epochs = s.epochs ∧ t.log = s.log ∧ t.table = s.table ∧ t.cursor = s.cursor ∧
        t.port = s.port)

/-- A search span without a start fall makes the slot LINE_LOW or SILENT. (R22, R23, R35) The model's choices in it:
log entries 2, 17, 24. -/
def Obligations.SearchSpanEndConcludesTheSlot : Prop :=
  ∀ (slot : Fin 16) (low : Bool) (s : State), s.ticking = true →
    ((s.transceiver.windowOpen = true ∧ slot.val < s.prof.width ∧
        (slot ≠ s.prof.index ∨ s.membership.state = .listening) ∧ s.outcomeOf slot = .pending) →
      ∃ t, exec (.searchSpanEnd slot low) s = .next t ∧ t.now = max s.now (s.slotStart slot + 12) ∧
        (∀ start, s.transceiver.windowStart = some start → s.slotStart slot = start + slot.val * s.prof.slotTime) ∧
        t.outcomeOf slot = (if low then .lineLow else .silent) ∧
        (∀ other, other ≠ slot → t.outcomeOf other = s.outcomeOf other) ∧
        t.transceiver.windowOpen = true ∧ t.transceiver.windowStart = s.transceiver.windowStart ∧
        t.transceiver.sending = s.transceiver.sending ∧ t.transceiver.foreignSet = s.transceiver.foreignSet ∧
        t.barrier.frameNo = s.barrier.frameNo ∧ t.barrier.phase = s.barrier.phase ∧ t.membership = s.membership ∧
        t.roster = s.roster ∧ t.resolver = s.resolver ∧ t.table = s.table ∧ t.verifier = s.verifier ∧ t.cursor = s.cursor ∧
        t.epochs = s.epochs ∧ t.sequencer = s.sequencer ∧ t.generators = s.generators ∧ t.log = s.log ∧
        t.port = s.port) ∧
    ((s.transceiver.windowOpen = false ∨ s.prof.width ≤ slot.val ∨
        (slot = s.prof.index ∧ s.membership.state ≠ .listening) ∨ s.outcomeOf slot ≠ .pending) →
      exec (.searchSpanEnd slot low) s = .next s)

/-- A completed reception sets its slot's outcome, and a note updates or creates its sender's member entry. (R22, R29,
R30, R31, R32, R34, R36, R42, R43, R44) The model's choices in it: log entries 2, 12, 17. -/
def Obligations.ReceptionsFillTheReceiptListAndTheRoster : Prop :=
  (∀ sender : SenderState,
    sender.member =
      match sender with
      | .joining => .joining
      | .founding => .founding
      | .flushing => .flushing
      | .active => .active
      | .leaving => .leaving) ∧
  (∀ s : State, s.hasNumber = true ↔
    (s.membership.state = .listening ∧ s.membership.adopted.isSome = true) ∨ s.membership.state = .joining ∨
      s.membership.state = .flushing ∨ s.membership.state = .active ∨ s.membership.state = .leaving) ∧
  ∀ (slot : Fin 16) (heard : Reception) (s : State), s.ticking = true → s.transceiver.windowOpen = true →
    slot.val < s.prof.width → (slot ≠ s.prof.index ∨ s.membership.state = .listening) →
    (s.outcomeOf slot = .pending ∨ (s.outcomeOf slot = .notSent ∧ slot = s.prof.index)) →
    let becomes (t : State) (o : SlotOutcome) : Prop :=
      t.outcomeOf slot = if s.outcomeOf slot = .pending then o else s.outcomeOf slot
    ∃ t, exec (.noteCompletion slot heard) s = .next t ∧
      t.now = max s.now (s.slotStart slot + 4 + heard.fall.val + receptionTicks heard.symbols) ∧
      (classify s.digest slot (receivedBytes heard.symbols) = .garbage →
        becomes t .garbage ∧ (∀ other, other ≠ slot → t.outcomeOf other = s.outcomeOf other) ∧
        t.transceiver.foreignSet = s.transceiver.foreignSet ∧ t.roster = s.roster ∧ t.membership = s.membership ∧
        t.log = s.log) ∧
      (∀ (pre : List Bool) (half : Bool) (rest : List (Bool × Bool)),
        heard.symbols = pre.map (fun b => (b, !b)) ++ (half, half) :: rest → pre.length < 112 →
        becomes t .garbage ∧ t.transceiver.foreignSet = s.transceiver.foreignSet ∧ t.roster = s.roster ∧
        t.membership = s.membership ∧ t.log = s.log ∧
        (pre.length < 96 → t.now = max s.now (s.slotStart slot + 4 + heard.fall.val + pre.length + 1))) ∧
      (classify s.digest slot (receivedBytes heard.symbols) = .foreign →
        becomes t .foreign ∧ (∀ other, other ≠ slot → t.outcomeOf other = s.outcomeOf other) ∧
        t.transceiver.foreignSet = s.transceiver.foreignSet ||| (1#16 <<< slot.val) ∧ t.roster = s.roster ∧
        t.membership = s.membership ∧ t.log = s.log) ∧
      (∀ n, classify s.digest slot (receivedBytes heard.symbols) = .valid n →
        (s.membership.state = .listening → n.index = s.prof.index →
          t.membership.state = .detached ∧ t.membership.fault = some .duplicateIndex ∧ t.barrier.phase = .dormant ∧
          t.roster.members = [] ∧ t.transceiver.windowOpen = false ∧
          t.log = s.log.append
            { body := .fault .duplicateIndex, frame := s.barrier.frameNo, epoch := s.epochs.epoch }) ∧
        ((s.membership.state ≠ .listening ∨ n.index ≠ s.prof.index) →
          let slipped := s.hasNumber && n.frame != s.barrier.frameNo
          becomes t (if slipped then .slip n else .valid n) ∧
          (∀ other, other ≠ slot → t.outcomeOf other = s.outcomeOf other) ∧ t.membership = s.membership ∧
          t.transceiver.foreignSet = s.transceiver.foreignSet ∧
          (∀ m, s.roster.entry n.index = some m →
            t.roster.entry n.index =
              some { m with
                state := n.sender.member, epoch := n.epoch, ready := n.ready, catchup := n.catchup
                lastHeard := if slipped then m.lastHeard else some n.frame
                misses := if slipped then m.misses else 0
                removal := if n.kind = .leave then .left else m.removal } ∧
            t.log = s.log) ∧
          (s.roster.entry n.index = none →
            t.roster.entry n.index =
              some
                { index := n.index, state := n.sender.member, epoch := n.epoch, ready := n.ready, catchup := n.catchup
                  lastHeard := if slipped then none else some n.frame, misses := 0
                  removal := if n.kind = .leave then .left else .none, stamp := none, expected := false } ∧
            t.log = s.log.append
              { body := if n.kind = .join ∨ n.kind = .found then .memberAdded n.index else .stray n.index
                frame := s.barrier.frameNo, epoch := s.epochs.epoch }) ∧
          ∀ other, other ≠ n.index → t.roster.entry other = s.roster.entry other)) ∧
      t.table = s.table ∧ t.verifier = s.verifier ∧ t.port = s.port ∧ t.profile = s.profile ∧ t.store = s.store

/-- At its transmission start the station sends the note its state calls for, or none. (R25, R26, R28, R56, R76, R87,
R134, R137) The model's choices in it: log entries 2, 12. -/
def Obligations.OwnNoteGoesOutAtItsStart : Prop :=
  ∀ s : State, s.ticking = true → s.transceiver.windowOpen = true → s.transceiver.ownPassed = false →
    ∃ t, exec .ownTransmissionStart s = .next t ∧ t.now = max s.now s.ownStartTick ∧
      (∀ start, s.transceiver.windowStart = some start →
        s.ownStartTick = start + s.prof.index.val * s.prof.slotTime + 8) ∧
      t.transceiver.ownPassed = true ∧
      (let plain (kind : NoteKind) (sender : SenderState) : Note :=
          { index := s.prof.index, kind, sender, ready := false, catchup := false, frame := s.barrier.frameNo
            epoch := s.epochs.epoch, digest := s.digest, claims := [] }
        let flagged (kind : NoteKind) (sender : SenderState) : Note :=
          { plain kind sender with
            ready := s.epochs.ready.isSome
            catchup := s.epochs.turn == .catchingUp
            claims := if s.epochs.turn = .catchingUp then [] else s.lookaheadClaims }
        let sends (n : Note) : Prop :=
          t.transceiver.sending = some { note := n, start := t.now, judged := true } ∧ t.transceiver.image = some n
        (s.membership.state = .active → sends (flagged .status .active) ∧ t.membership = s.membership) ∧
        (s.membership.state = .flushing → s.membership.founder = false →
          sends (flagged .status .flushing) ∧ t.membership = s.membership) ∧
        (s.membership.state = .flushing → s.membership.founder = true →
          sends (flagged .found .founding) ∧ t.membership = s.membership) ∧
        (s.membership.state = .leaving → sends (plain .leave .leaving) ∧ t.membership = s.membership) ∧
        (s.membership.state = .listening → s.membership.adopted.isSome = true →
          sends (plain .join .joining) ∧ t.membership = { s.membership with state := .joining, adopted := none }) ∧
        (s.membership.state = .listening → s.membership.adopted = none →
          t.transceiver.sending = s.transceiver.sending ∧ t.membership = s.membership ∧
          (s.outcomeOf s.prof.index = .pending → t.outcomeOf s.prof.index = .notSent))) ∧
      (∀ slot, slot ≠ s.prof.index → t.outcomeOf slot = s.outcomeOf slot) ∧
      t.transceiver.windowOpen = true ∧ t.barrier.frameNo = s.barrier.frameNo ∧ t.barrier.phase = s.barrier.phase ∧
      t.roster = s.roster ∧ t.resolver = s.resolver ∧ t.table = s.table ∧ t.verifier = s.verifier ∧ t.cursor = s.cursor ∧ t.epochs = s.epochs ∧
      t.sequencer = s.sequencer ∧ t.generators = s.generators ∧ t.log = s.log ∧ t.port = s.port ∧
      (∀ e p, s.cursor.lookahead = some (.apply e) → s.plan? e = some p →
        (∀ l, (∃ prio, ({ lane := l, priority := prio } : Claim) ∈ s.lookaheadClaims) ↔ ∃ r ∈ p.records, r.lane = some l) ∧
        ∀ claim ∈ s.lookaheadClaims, ∃ r ∈ p.records, r.lane = some claim.lane ∧ r.priority = claim.priority) ∧
      ((∀ e p, s.cursor.lookahead = some (.apply e) → s.plan? e ≠ some p) → s.lookaheadClaims = []) ∧
      s.lookaheadClaims.Pairwise fun a b => a.lane < b.lane

/-- The own note's readback makes OWN_OK or detaches the station; a parting note is sent and never judged. (R27, R33,
R91, R134) The model's choices in it: log entries 2, 13, 17. -/
def Obligations.OwnNoteIsJudgedAndAPartingNoteIsNot : Prop :=
  ∀ (x : Transmission) (note : Note) (start : Nat) (levels : List (Bool × Bool)) (s : State), s.ticking = true →
    (s.transceiver.sending = some x →
      ∃ t, exec (.ownNoteCompletion levels) s = .next t ∧
        t.now = max s.now (x.start + 8 * (14 + x.note.claims.length)) ∧ t.transceiver.sending = none ∧
        (let mismatch := x.mismatch = true ∨
            ∃ (k : Nat) (bit : Bool) (level : Bool × Bool),
              (x.note.encode.flatMap bitsOfByte)[k]? = some bit ∧ levels[k]? = some level ∧
                (if bit then level.1 else level.2) = false;
          (x.judged = true → ¬ mismatch →
            (s.outcomeOf s.prof.index = .pending → t.outcomeOf s.prof.index = .ownOk x.note) ∧
            (∀ slot, slot ≠ s.prof.index → t.outcomeOf slot = s.outcomeOf slot) ∧
            t.epochs =
              { s.epochs with announced := s.epochs.announced || (x.note.ready && !x.note.catchup) } ∧
            t.membership = s.membership ∧ t.roster = s.roster ∧ t.log = s.log) ∧
          (x.judged = true → mismatch → s.membership.state.inRig = true →
            t.membership.state = .detached ∧ t.membership.fault = some .duplicateIndex ∧ t.barrier.phase = .dormant ∧
            t.barrier.pulled = false ∧ t.barrier.frameNo = 0 ∧ t.roster.members = [] ∧ t.resolver.table = none ∧
            t.log =
              ((if s.membership.state.participant then s.cutGenerators.frameRecord true else []) ++
                [({ body := .fault .duplicateIndex, frame := s.barrier.frameNo, epoch := s.epochs.epoch } : Record)]).foldl
                StationLog.append s.log)) ∧
        (x.judged = false →
          t.transceiver.receipt = s.transceiver.receipt ∧ t.epochs = s.epochs ∧ t.membership = s.membership ∧
          t.roster = s.roster ∧ t.log = s.log ∧
          t.transceiver.windowStart =
            (if s.transceiver.windowOpen = true then s.transceiver.windowStart else none)) ∧
        t.table = s.table ∧ t.verifier = s.verifier ∧ t.port = s.port ∧ t.profile = s.profile) ∧
    (s.transceiver.parting = some note → s.transceiver.windowStart = some start →
      ∃ t, exec .partingNoteSend s = .next t ∧
        t.now = max s.now (start + s.prof.index.val * s.prof.slotTime + 8) ∧
        t.transceiver.sending = some { note, start := t.now, judged := false } ∧ t.transceiver.image = some note ∧
        t.transceiver.parting = none ∧ t.transceiver.windowStart = some start ∧
        t.transceiver.windowOpen = s.transceiver.windowOpen ∧ t.transceiver.receipt = s.transceiver.receipt ∧
        t.membership = s.membership ∧ t.roster = s.roster ∧ t.resolver = s.resolver ∧ t.cursor = s.cursor ∧
        t.epochs = s.epochs ∧ t.log = s.log ∧ t.table = s.table ∧ t.verifier = s.verifier ∧ t.port = s.port)

/-- The window end closes the list: miss counts, stamps, the own view, the grant table, the records, the first
condition. (R6, R8, R37, R44, R46, R47, R50, R53, R58, R59, R87, R139) The model's choices in it: log entries 2, 8,
15, 33, 34, 40, 44. -/
def Obligations.WindowEndHandsOverTheList : Prop :=
  ∀ s : State, s.ticking = true → s.transceiver.windowOpen = true → s.endFault = none →
    let last := s.barrier.phase = .holding ∧ s.barrier.minTimeDone = true ∧ s.barrier.exposuresDone = true ∧
      s.barrier.strobesDone = true ∧ (s.barrier.windowDone = true ∨ s.membership.state.participant = true)
    let number : FrameNo :=
      match s.adoption with
      | .none => s.barrier.frameNo
      | .listening frame _ | .slip frame | .yield frame _ => frame
    let tick (body : RecordBody) : Record := { body, frame := s.barrier.frameNo, epoch := s.epochs.epoch }
    let records : List Record :=
      (if s.transceiver.foreignSet = 0 then [] else [tick (.foreign s.transceiver.foreignSet)]) ++
        (s.lostMembers.map fun i => tick (.memberLost i)) ++
        (match s.adoption with
          | .none => []
          | .listening frame epoch => [{ body := .adopted, frame, epoch }]
          | .slip frame => [tick (.slip s.barrier.frameNo frame)]
          | .yield frame epoch => [{ body := .yielded, frame, epoch }]) ++
        (if s.adoptsEpoch then [{ tick .epochAdopted with epoch := s.epochs.epoch + 1 }] else [])
    (∀ slot claims, (slot, claims) ∈ s.entering ↔
      ∃ n, (s.outcomeOf slot = .valid n ∨ s.outcomeOf slot = .ownOk n) ∧ claims = n.claims) ∧
    (s.entering.map Prod.fst).Nodup ∧
    (∀ start, s.transceiver.windowStart = some start →
      s.windowEndTick = start + s.prof.width * s.prof.slotTime) ∧
    (s.adoptsEpoch = true ↔
      s.epochs.newcomer = true ∧ (∀ f e, s.adoption ≠ .listening f e ∧ s.adoption ≠ .yield f e) ∧
        ∃ slot n, s.outcomeOf slot = .valid n ∧ n.epoch = s.epochs.epoch + 1) ∧
    (s.membership.state.judgesSplit = true ↔
      s.membership.state = .joining ∨ s.membership.state = .flushing ∨ s.membership.state = .active ∨
        s.membership.state = .leaving) ∧
    (s.membership.state.participant = true ↔
      s.membership.state = .flushing ∨ s.membership.state = .active ∨ s.membership.state = .leaving) ∧
    (s.rosterAscending = true →
      s.lostMembers.Pairwise (· < ·) ∧
      ∀ i ∈ s.lostMembers, ∃ m, s.roster.entry i = some m ∧ m.removal = .none ∧
        (if m.expected ∧ (s.outcomeOf i).isValid = false then min s.prof.missLimit (m.misses + 1) else m.misses) =
          s.prof.missLimit) ∧
    ∃ t, exec .windowEnd s = .next t ∧ t.now = max s.now s.windowEndTick ∧
      t.table = s.table ∧ t.verifier = s.verifier ∧ t.port = s.port ∧ t.profile = s.profile ∧
      (last ∧ s.membership.state = .leaving →
        t.membership.state = .standby ∧ t.barrier.phase = .dormant ∧ t.barrier.pulled = false ∧ t.barrier.frameNo = 0 ∧
        t.roster = {} ∧ t.resolver = {} ∧ t.cursor = {} ∧ t.epochs = {} ∧ t.transceiver.windowOpen = false ∧
        ∃ rs : List Record,
          rs.Perm
            (records ++ s.cutGenerators.frameRecord false ++
              [{ body := .left, frame := number
                 epoch := if s.adoptsEpoch then s.epochs.epoch + 1 else s.epochs.epoch }]) ∧
          (s.lostMembers.map fun i => tick (.memberLost i)).Sublist rs ∧
          (s.cutGenerators.frameRecord false ++
              [({ body := .left, frame := number
                  epoch := if s.adoptsEpoch then s.epochs.epoch + 1 else s.epochs.epoch } : Record)]).Sublist rs ∧
          t.log = rs.foldl StationLog.append s.log) ∧
      (¬ (last ∧ s.membership.state = .leaving) →
        t.transceiver.windowOpen = false ∧ t.transceiver.windowStart = none ∧ t.transceiver.ownPassed = true ∧
        t.transceiver.receipt = s.transceiver.receipt ∧
        t.barrier.windowDone = (s.barrier.windowDone || s.membership.state.participant) ∧
        (last → t.barrier.phase = .released ∧ t.barrier.pulled = false ∧ t.barrier.holdStart = none) ∧
        (¬ last → t.barrier.phase = s.barrier.phase ∧ t.barrier.pulled = s.barrier.pulled) ∧
        t.barrier.runFrame = s.barrier.runFrame ∧ t.barrier.runEpoch = s.barrier.runEpoch ∧
        t.barrier.frameNo = number ∧ t.membership.state = s.membership.state ∧ t.membership.founder = false ∧
        t.roster.view = some s.completeView ∧ t.roster.required = s.roster.required ∧
        (t.roster.view = some true ↔
          (∀ m ∈ s.roster.members, m.expected = true → ∃ n, s.outcomeOf m.index = .valid n) ∧
          (∃ n, s.outcomeOf s.prof.index = .ownOk n) ∧ s.adoption = .none ∧ s.transceiver.closedEarly = false ∧
          ∀ slot, s.outcomeOf slot ≠ .garbage ∧ s.outcomeOf slot ≠ .lineLow) ∧
        (∀ i m, s.roster.entry i = some m →
          let misses :=
            if m.expected ∧ (s.outcomeOf i).isValid = false then min s.prof.missLimit (m.misses + 1) else m.misses
          ∃ m', t.roster.entry i = some m' ∧ m'.misses = misses ∧
            (misses = s.prof.missLimit → m.removal = .none →
              m'.state = .lost ∧ m'.removal = .lost ∧ i ∈ s.lostMembers) ∧
            (¬ (misses = s.prof.missLimit ∧ m.removal = .none) → m'.state = m.state ∧ m'.removal = m.removal) ∧
            m'.stamp = (if m.removal = .left then some (s.barrier.frameNo, s.epochs.epoch) else m.stamp)) ∧
        (s.membership.state.judgesSplit = true →
          ∃ g, t.resolver.table = some g ∧ g.frame = number + 1 ∧ g.complete = s.completeView ∧
            ∀ lane, g.lanes.get lane = laneEntry s.prof.width ((number + 1).toNat % s.prof.width) s.entering lane) ∧
        (s.membership.state.judgesSplit = false → t.resolver = s.resolver) ∧
        t.resolver.turnMark = s.resolver.turnMark ∧ t.resolver.inUse = s.resolver.inUse ∧
        (∃ rs : List Record, rs.Perm records ∧ (s.lostMembers.map fun i => tick (.memberLost i)).Sublist rs ∧
          t.log = rs.foldl StationLog.append s.log) ∧
        (s.adoption = .none →
          (s.membership.state ≠ .active ∨ s.epochs.announced = false ∨ s.completeView = true) →
          t.cursor = s.cursor ∧ t.membership.pendingLeave = s.membership.pendingLeave ∧
          t.membership.leavingFrame = s.membership.leavingFrame) ∧
        t.cursor.current = s.cursor.current ∧ t.sequencer = s.sequencer ∧ t.generators = s.generators)

/-- A window end slips to the number heard, lets the founder yield, or detaches on a fault, exactly when its
conditions hold. (R17, R18, R19, R31, R41, R47, R49, R75, R80, R91, R128, R140) The model's choices in it: log entries
15, 19, 30, 33, 39, 40. -/
def Obligations.WindowEndSlipsYieldsOrDetaches : Prop :=
  ∀ s : State, s.ticking = true → s.transceiver.windowOpen = true →
    let heard (slot : Fin 16) (n : Note) : Prop := s.outcomeOf slot = .valid n ∨ s.outcomeOf slot = .slip n
    let chosen (u : State) (number : FrameNo) : Content :=
      if u.membership.state = .leaving then .leave
      else if u.cursor.parked then .parked
      else
        match u.cursor.entry with
        | none => .idle
        | some e =>
          match u.plan? e with
          | none => .idle
          | some p =>
            if number.toNat % p.divisor ≠ p.phase then .idle
            else if u.cursor.headSent ≠ some p.headMode then .settle e
            else .apply e
    let slips (f : FrameNo) : Prop :=
      let told (slot : Fin 16) (n : Note) : Prop := heard slot n ∧ (n.kind = .status ∨ n.kind = .leave)
      (s.membership.state = .joining ∨ s.membership.state = .flushing ∨ s.membership.state = .active ∨
          s.membership.state = .leaving ∨ (s.membership.state = .listening ∧ s.membership.adopted.isSome = true)) ∧
        s.membership.founder = false ∧ (∃ slot n, told slot n) ∧ (∀ slot n, told slot n → n.frame = f) ∧
        f ≠ s.barrier.frameNo ∧
        ((∃ a b n m, a ≠ b ∧ told a n ∧ told b m) ∨ ∃ a n, told a n ∧ n.index < s.prof.index)
    let yields (f : FrameNo) (e : EpochNo) : Prop :=
      let told (slot : Fin 16) (n : Note) : Prop := heard slot n ∧ n.kind = .status
      s.membership.state = .flushing ∧ s.membership.founder = true ∧ (∃ slot n, told slot n) ∧
        (∀ slot n, told slot n → n.frame = f ∧ n.epoch = e) ∧ (f ≠ s.barrier.frameNo ∨ e ≠ s.epochs.epoch)
    let listens (f : FrameNo) (e : EpochNo) : Prop :=
      s.membership.state = .listening ∧ s.membership.adopted = none ∧ (∃ slot n, s.outcomeOf slot = .valid n) ∧
        ∀ slot n, s.outcomeOf slot = .valid n → n.frame = f ∧ n.epoch = e
    let splits : Prop :=
      (s.membership.state = .joining ∨ s.membership.state = .flushing ∨ s.membership.state = .active ∨
          s.membership.state = .leaving) ∧
        (∀ f e, ¬ yields f e) ∧
        ∃ slot n, s.outcomeOf slot = .valid n ∧ (n.sender = .active ∨ n.sender = .leaving) ∧
          s.roster.settled.getLsbD n.index.val = true ∧ n.epoch ≠ s.epochs.epoch ∧
          ¬ (n.epoch = s.epochs.epoch - 1 ∧ n.catchup = true) ∧
          ¬ (n.epoch = s.epochs.epoch + 1 ∧ (s.epochs.turn = .catchingUp ∨ s.epochs.newcomer = true))
    let quiets : Prop :=
      s.membership.state = .listening ∧ 3 ≤ s.membership.quiet ∧ ∀ slot n, s.outcomeOf slot ≠ .valid n
    let foreign : Prop := s.membership.foreignHeard = true ∨ s.transceiver.foreignSet ≠ 0;
    (∀ f, s.adoption = .slip f ↔ slips f) ∧ (∀ f e, s.adoption = .yield f e ↔ yields f e) ∧
    (∀ f e, s.adoption = .listening f e ↔ listens f e) ∧
    (s.endFault = some .epochSplit ↔ splits) ∧ (s.endFault = some .profileMismatch ↔ quiets ∧ foreign) ∧
    (s.endFault = some .noNotes ↔ quiets ∧ ¬ foreign) ∧ (s.endFault = none ↔ ¬ splits ∧ ¬ quiets) ∧
    (∀ f, slips f → ¬ splits → ¬ quiets → (s.barrier.phase ≠ .holding ∨ s.membership.state ≠ .leaving) →
      ∃ t, exec .windowEnd s = .next t ∧ t.barrier.frameNo = f ∧ t.membership.state = s.membership.state ∧
        t.roster.view = some false ∧
        (∃ rs : List Record,
          { body := .slip s.barrier.frameNo f, frame := s.barrier.frameNo, epoch := s.epochs.epoch } ∈ rs ∧
            t.log = rs.foldl StationLog.append s.log) ∧
        (s.membership.state.participant = true → s.epochs.announced = false →
          t.cursor.lookahead = some (chosen t (f + 1)))) ∧
    (∀ f e, yields f e →
      ∃ t, exec .windowEnd s = .next t ∧ t.barrier.frameNo = f ∧ t.epochs.epoch = e ∧ t.membership.state = .flushing ∧
        t.membership.founder = false ∧ t.roster.view = some false ∧ t.epochs.staged = s.epochs.staged ∧
        (∃ rs : List Record,
          { body := .yielded, frame := f, epoch := e } ∈ rs ∧ t.log = rs.foldl StationLog.append s.log) ∧
        t.cursor.lookahead = some (chosen t (f + 1))) ∧
    ∀ cause, s.endFault = some cause →
      ∃ t, exec .windowEnd s = .next t ∧ t.membership.state = .detached ∧ t.membership.fault = some cause ∧
        t.barrier.phase = .dormant ∧ t.barrier.pulled = false ∧ t.barrier.frameNo = 0 ∧ t.roster = {} ∧
        t.resolver = {} ∧ t.cursor = {} ∧ t.epochs = {} ∧ t.sequencer = {} ∧ (∀ c, t.generators.get c = {}) ∧
        t.transceiver.windowOpen = false ∧ t.table = s.table ∧ t.verifier = s.verifier ∧ t.port = s.port ∧
        (let tick (body : RecordBody) : Record := { body, frame := s.barrier.frameNo, epoch := s.epochs.epoch }
          let ended : List Record :=
            (if s.transceiver.foreignSet = 0 then [] else [tick (.foreign s.transceiver.foreignSet)]) ++
              (s.lostMembers.map fun i => tick (.memberLost i)) ++
              match s.adoption with
              | .slip frame => if cause = .epochSplit then [] else [tick (.slip s.barrier.frameNo frame)]
              | .none | .listening _ _ | .yield _ _ => []
          let own : List Record :=
            (if s.membership.state.participant then s.cutGenerators.frameRecord true else []) ++
              [{ body := .fault cause, frame := s.barrier.frameNo, epoch := s.epochs.epoch }]
          ∃ rs : List Record, rs.Perm (ended ++ own) ∧ own.Sublist rs ∧
            t.log = rs.foldl StationLog.append s.log)

/-- A FRAME record reports how the frame went, and EXCEPTIONS stores it only for a frame that is one. (R63, R125,
R148, R156, R157, R158, R161, R165) The model's choices in it: log entry 8. -/
def Obligations.FrameRecordsReportTheFrame : Prop :=
  ∀ (truncated : Bool) (s : State),
    let r := s.frameReport truncated
    let exceptional := r.outcome ≠ .exposed ∨ r.denied ≠ [] ∨ r.late = true ∨ r.truncated = true ∨ r.headBusy = true ∨
      r.shortBurst = true ∨ r.turn = true ∨ ∃ c, r.channels.get c = some .notRun ∨ r.channels.get c = some .cut
    ((s.prof.policy = .all ∨ exceptional) →
      s.frameRecord truncated = [{ body := .frame r, frame := s.barrier.runFrame, epoch := s.barrier.runEpoch }]) ∧
    s.cutGenerators = { s with generators := s.cutGenerators.generators } ∧
    (∀ c,
      let g := s.generators.get c
      ((g.phase = .done ∨ g.phase = .cut) → s.cutGenerators.generators.get c = g) ∧
      (g.phase ≠ .done → g.phase ≠ .cut →
        s.cutGenerators.generators.get c = { g with phase := .cut, phaseEnd := none, outcome := some .cut })) ∧
    (s.prof.policy = .exceptions → ¬ exceptional → s.frameRecord truncated = []) ∧
    (∀ e, s.cursor.current = some (.apply e) →
      r.planIndex = some e ∧ r.outcome = (if s.sequencer.burstSkipped then .headBusy else .exposed)) ∧
    (∀ e, s.cursor.current = some (.flush e) →
      r.planIndex = some e ∧ r.outcome = (if s.sequencer.burstSkipped then .headBusy else .flush)) ∧
    (∀ e, s.cursor.current = some (.settle e) → r.planIndex = some e ∧ r.outcome = .settle) ∧
    (s.cursor.current = some .idle → r.planIndex = none ∧ r.outcome = .idle) ∧
    (s.cursor.current = some .parked → r.planIndex = none ∧ r.outcome = .parked) ∧
    (s.cursor.current = some .abstain → r.planIndex = none ∧ r.outcome = .abstain) ∧
    r.exposures = s.sequencer.made ∧ r.late = s.barrier.late ∧ r.truncated = truncated ∧
    (r.headBusy = true ↔ r.outcome = .headBusy) ∧
    (r.shortBurst = true ↔ ∃ k, s.sequencer.skipAt = some k ∧ 2 ≤ k) ∧ r.turn = s.resolver.turnMark ∧
    r.granted = s.resolver.inUse ∧ (∀ c, r.channels.get c = (s.generators.get c).outcome) ∧
    (∀ l reason, (l, reason) ∈ r.denied ↔
      ∃ c x, (s.generators.get c).record = some x ∧ x.lane = some l ∧
        (s.generators.get c).decision = some (.denied reason)) ∧
    r.denied.Pairwise fun a b => a.1 ≤ b.1

/-- The window end decides an advance, starts or resolves a catch-up, adopts an epoch, and sets the newcomer flag.
(R74, R80, R81, R133, R135, R137, R138, R139) The model's choices in it: log entries 15, 33. -/
def Obligations.WindowEndsTurnTheEpochUnit : Prop :=
  ∀ s : State, s.ticking = true → s.transceiver.windowOpen = true → s.endFault = none →
    (s.membership.state = .active →
      ∃ t, exec .windowEnd s = .next t ∧ t.membership.state = .active ∧
        (let allReady := ∀ i : Fin 16, s.roster.required.getLsbD i.val = true →
            ∃ n, s.outcomeOf i = .valid n ∧ n.ready = true ∧ n.catchup = false ∧ n.epoch = s.epochs.epoch
          let oneAhead := ∃ (i : Fin 16) (n : Note), s.outcomeOf i = .valid n ∧ n.epoch = s.epochs.epoch + 1
          (s.epochs.newcomer = true → oneAhead →
            t.epochs.epoch = s.epochs.epoch + 1 ∧ t.epochs.ready = none ∧ t.epochs.deferred = false ∧
            t.epochs.turn = s.epochs.turn) ∧
          (¬ (s.epochs.newcomer = true ∧ oneAhead) →
            t.epochs.epoch = s.epochs.epoch ∧
            (s.epochs.turn = .idle → s.epochs.announced = true →
              (s.completeView = true → allReady →
                t.epochs.turn = .advanceDue false ∧ t.epochs.ready = s.epochs.ready ∧ t.epochs.deferred = false) ∧
              (s.completeView = true → ¬ allReady →
                t.epochs.turn = .idle ∧ t.epochs.deferred = false ∧
                t.epochs.ready = (if s.epochs.deferred then none else s.epochs.ready)) ∧
              (s.completeView = false →
                t.epochs.turn = .catchingUp ∧ t.epochs.ready = s.epochs.ready ∧ t.epochs.deferred = false ∧
                t.cursor.lookahead = some .abstain)) ∧
            ((s.epochs.turn ≠ .idle ∨ s.epochs.announced = false) → s.epochs.turn ≠ .catchingUp →
              t.epochs.turn = s.epochs.turn ∧ t.epochs.deferred = false ∧
              t.epochs.ready = (if s.epochs.deferred then none else s.epochs.ready)) ∧
            (s.epochs.turn = .catchingUp → oneAhead → t.epochs.turn = .advanceDue true ∧ t.epochs.ready = s.epochs.ready) ∧
            (s.epochs.turn = .catchingUp → ¬ oneAhead → t.epochs.turn = .idle ∧ t.epochs.ready = s.epochs.ready)) ∧
          t.epochs.staged = s.epochs.staged ∧ t.epochs.newcomer = false)) ∧
    (s.membership.state ≠ .active →
      ¬ (s.membership.state = .leaving ∧ s.barrier.phase = .holding ∧ s.barrier.minTimeDone = true ∧
        s.barrier.exposuresDone = true ∧ s.barrier.strobesDone = true) →
      let takes (epoch : EpochNo) : Prop :=
        ∃ frame, s.adoption = .listening frame epoch ∨ s.adoption = .yield frame epoch
      let adopts := s.epochs.newcomer = true ∧ (∀ epoch, ¬ takes epoch) ∧
        ∃ slot n, s.outcomeOf slot = .valid n ∧ n.epoch = s.epochs.epoch + 1
      ∃ t, exec .windowEnd s = .next t ∧ t.membership.state = s.membership.state ∧
        (∀ epoch, takes epoch → t.epochs.epoch = epoch) ∧
        (adopts → t.epochs.epoch = s.epochs.epoch + 1) ∧
        ((∀ epoch, ¬ takes epoch) → ¬ adopts → t.epochs.epoch = s.epochs.epoch) ∧
        (t.epochs.newcomer = true ↔
          s.membership.state = .joining ∨ s.membership.state = .founding ∨ s.membership.state = .flushing ∨
            ∃ frame epoch, s.adoption = .listening frame epoch) ∧
        t.epochs.staged = s.epochs.staged ∧ t.epochs.announced = s.epochs.announced ∧
        (s.epochs.turn ≠ .catchingUp →
          t.epochs.turn = s.epochs.turn ∧ t.epochs.deferred = false ∧
          t.epochs.ready = (if s.epochs.deferred then none else s.epochs.ready)))

/-- A listener adopts what every VALID note agrees on, counts quiet windows and detaches at the fourth. (R17, R18,
R74, R75, R91) -/
def Obligations.ListenersAdoptOrDetachAtTheWindowEnd : Prop :=
  ∀ s : State, s.ticking = true → s.transceiver.windowOpen = true → s.membership.state = .listening →
    ∃ t, exec .windowEnd s = .next t ∧
      ((∀ slot n, s.outcomeOf slot ≠ .valid n) → s.membership.quiet < 3 →
        t.membership.state = .listening ∧ t.membership.quiet = s.membership.quiet + 1 ∧
        t.membership.adopted = s.membership.adopted ∧
        t.membership.foreignHeard = (s.membership.foreignHeard || s.transceiver.foreignSet != 0)) ∧
      ((∀ slot n, s.outcomeOf slot ≠ .valid n) → 3 ≤ s.membership.quiet →
        t.membership.state = .detached ∧ t.barrier.phase = .dormant ∧ t.roster.members = [] ∧
        t.membership.fault =
          some (if s.membership.foreignHeard = true ∨ s.transceiver.foreignSet ≠ 0 then .profileMismatch else .noNotes)) ∧
      ((∃ slot n, s.outcomeOf slot = .valid n) →
        t.membership.state = .listening ∧ t.membership.quiet = 0 ∧ t.membership.foreignHeard = false) ∧
      (∀ f e, (∃ slot n, s.outcomeOf slot = .valid n) →
        (∀ slot n, s.outcomeOf slot = .valid n → n.frame = f ∧ n.epoch = e) → s.membership.adopted = none →
        t.membership.adopted = some f ∧ t.barrier.frameNo = f ∧ t.epochs.epoch = e) ∧
      ((∃ slot slot' n n', s.outcomeOf slot = .valid n ∧ s.outcomeOf slot' = .valid n' ∧
          (n.frame ≠ n'.frame ∨ n.epoch ≠ n'.epoch)) → s.membership.adopted = none →
        t.membership.adopted = none ∧ t.barrier.frameNo = s.barrier.frameNo) ∧
      (s.membership.quiet < 3 ∨ (∃ slot n, s.outcomeOf slot = .valid n) →
        (s.membership.adopted = none → (∀ slot n, s.outcomeOf slot ≠ .valid n) →
          t.barrier.frameNo = s.barrier.frameNo) ∧
        (s.membership.adopted.isSome = true →
          t.membership.adopted = s.membership.adopted ∧ (∀ f, s.adoption = .slip f → t.barrier.frameNo = f) ∧
          ((∀ f, s.adoption ≠ .slip f) → t.barrier.frameNo = s.barrier.frameNo))) ∧
      t.resolver.turnMark = (if t.membership.state = .detached then false else s.resolver.turnMark) ∧
      t.table = s.table ∧ t.verifier = s.verifier ∧ t.profile = s.profile ∧ t.port = s.port

/-- A lane goes to its highest claim, and among equals to the first index from t upward, cyclically. (R60, R56) -/
def Obligations.LanesGoToTheHighestClaimantByTheTieBreak : Prop :=
  ∀ (width t : Nat) (entering : Entering) (lane : Fin 8), t < width →
    (entering.map fun e => e.1).Nodup → (∀ e ∈ entering, e.1.val < width ∧ (e.2.map fun c => c.lane).Nodup) →
    let claims (i : Fin 16) (p : Fin 4) : Prop := ∃ e ∈ entering, e.1 = i ∧ { lane, priority := p : Claim } ∈ e.2
    let place (i : Fin 16) : Nat := (i.val + width - t) % width
    (∀ i p, (laneEntry width t entering lane).winner = some (i, p) ↔
      claims i p ∧ (∀ j q, claims j q → q ≤ p) ∧ ∀ j, claims j p → place i ≤ place j) ∧
    ((∀ i p, ¬ claims i p) → (laneEntry width t entering lane).winner = none) ∧
    ∀ i : Fin 16, (laneEntry width t entering lane).claimants.getLsbD i.val = true ↔ ∃ p, claims i p

/-- Exposures start with HRDY high, are skipped with it low, and end on schedule; the head code word ends after it.
(R144, R146, R147, R148, R151, R152) The model's choices in it: log entry 2. -/
def Obligations.ExposuresFollowTheirSchedule : Prop :=
  ∀ (start stop : Nat) (w : HeadWord) (s : State), s.ticking = true →
    (let started (ref : Reference) (at_ : Nat) (t : State) : Prop := ∀ c,
        (∀ r, (s.generators.get c).phase = .wait → (s.generators.get c).record = some r → r.reference = ref →
          (t.generators.get c) =
            (if r.delay = 0 then
              { s.generators.get c with
                phase := .on, pulsesLeft := (s.generators.get c).pulsesLeft - 1, phaseEnd := some (at_ + r.onTime) }
            else { s.generators.get c with phase := .delay, phaseEnd := some (at_ + r.delay) })) ∧
        (((s.generators.get c).phase ≠ .wait ∨
            ∀ r, (s.generators.get c).record = some r → r.reference ≠ ref) →
          t.generators.get c = s.generators.get c)
      let stays (t : State) : Prop := t.membership = s.membership ∧ t.transceiver = s.transceiver ∧
        t.roster = s.roster ∧ t.resolver = s.resolver ∧ t.cursor = s.cursor ∧ t.epochs = s.epochs ∧ t.log = s.log ∧
        t.table = s.table ∧ t.port = s.port ∧ t.barrier.phase = s.barrier.phase ∧ t.barrier.pulled = s.barrier.pulled
      ((s.barrier.phase = .holding ∨ s.barrier.pullDue = true) → s.sequencer.skipAt = none → s.sequencer.xtrig = false →
        s.sequencer.schedule[s.sequencer.started]? = some (start, stop) →
        (∃ t, exec (.exposureStart true) s = .next t ∧ t.now = max s.now start ∧
          t.sequencer =
            { s.sequencer with started := s.sequencer.started + 1, made := s.sequencer.made + 1, xtrig := true } ∧
          (s.sequencer.started = 0 → started .firstExpose start t) ∧
          (s.sequencer.started ≠ 0 → t.generators = s.generators) ∧ stays t) ∧
        (s.barrier.exposuresDone = false →
          ∃ t, exec (.exposureStart false) s = .next t ∧ t.now = max s.now start ∧
            t.sequencer =
              { s.sequencer with
                skipAt := some (s.sequencer.started + 1)
                burstSkipped := s.sequencer.burstSkipped || s.sequencer.started == 0 } ∧
            (∀ c,
              let g := s.generators.get c
              let hit := g.phase = .wait ∧ ∃ r, g.record = some r ∧
                (r.reference = .lastExposeEnd ∨ (r.reference = .firstExpose ∧ s.sequencer.started = 0))
              (hit → t.generators.get c = { g with phase := .done, phaseEnd := none, outcome := some .notRun }) ∧
              (¬ hit → t.generators.get c = g)) ∧
            (t.barrier.strobesDone = true ↔
              s.barrier.strobesDone = true ∨
                ∀ c, (t.generators.get c).phase = .done ∨ (t.generators.get c).phase = .cut) ∧
            stays t)) ∧
      (s.sequencer.xtrig = true → s.sequencer.schedule[s.sequencer.started - 1]? = some (start, stop) →
        ∃ t, exec .exposureEnd s = .next t ∧ t.now = max s.now stop ∧
          t.sequencer = { s.sequencer with xtrig := false } ∧
          (s.sequencer.started = s.sequencer.schedule.length → started .lastExposeEnd stop t) ∧
          (s.sequencer.started ≠ s.sequencer.schedule.length → t.generators = s.generators) ∧ stays t) ∧
      (s.sequencer.headWord = some w →
        ∃ t, exec .hcodeWordSent s = .next t ∧ t.now = max s.now (w.start + 11) ∧
          t.sequencer = { s.sequencer with headWord := none } ∧ t.hcode = false ∧ t.generators = s.generators ∧ stays t))

/-- Minimum frame time and exposures meet their release conditions, and the last of the four releases FRAME. (R6, R8,
R87, R149, R158) The model's choices in it: log entry 2. -/
def Obligations.TheLastConditionReleasesFrame : Prop :=
  ∀ (c : Instr) (s : State), s.ticking = true → (s.barrier.phase = .holding ∨ s.barrier.pullDue = true) →
    ((c = .minFrameTimeElapsed ∧ s.barrier.minTimeDue.isSome = true) ∨
      (c = .exposuresEnded ∧ s.barrier.exposuresDone = false ∧
        ((∃ e, s.cursor.current = some (.settle e) ∧ s.sequencer.headWord = none) ∨
          ((∃ e, s.cursor.current = some (.apply e) ∨ s.cursor.current = some (.flush e)) ∧
            (s.sequencer.skipAt.isSome = true ∨
              (s.sequencer.started = s.sequencer.schedule.length ∧ s.sequencer.xtrig = false)))))) →
    let last := s.barrier.phase = .holding ∧ s.barrier.windowDone = true ∧ s.barrier.strobesDone = true ∧
      (c = .exposuresEnded ∨ s.barrier.exposuresDone = true) ∧ (c = .minFrameTimeElapsed ∨ s.barrier.minTimeDone = true)
    ∃ t, exec c s = .next t ∧
      (c = .minFrameTimeElapsed → ∀ due, s.barrier.minTimeDue = some due → t.now = max s.now due) ∧
      (c = .exposuresEnded → t.now = s.now) ∧
      (¬ (last ∧ s.membership.state = .leaving) →
        (c = .minFrameTimeElapsed → t.barrier.minTimeDone = true ∧ t.barrier.minTimeDue = none ∧
          t.barrier.exposuresDone = s.barrier.exposuresDone) ∧
        (c = .exposuresEnded → t.barrier.exposuresDone = true ∧ t.barrier.minTimeDone = s.barrier.minTimeDone) ∧
        t.barrier.frameNo = s.barrier.frameNo ∧ t.membership = s.membership ∧ t.transceiver = s.transceiver ∧
        t.roster = s.roster ∧ t.resolver = s.resolver ∧ t.cursor = s.cursor ∧ t.epochs = s.epochs ∧
        t.generators = s.generators ∧ t.sequencer = s.sequencer ∧ t.log = s.log) ∧
      (¬ last → t.barrier.phase = s.barrier.phase ∧ t.barrier.pulled = s.barrier.pulled) ∧
      (last → s.membership.state ≠ .leaving →
        t.barrier.phase = .released ∧ t.barrier.pulled = false ∧ t.barrier.holdStart = none) ∧
      (last → s.membership.state = .leaving →
        t.membership.state = .standby ∧ t.barrier.phase = .dormant ∧ t.barrier.pulled = false ∧
          t.barrier.frameNo = 0 ∧ t.epochs.epoch = 0 ∧ t.roster.members = [] ∧
          t.log =
            (s.cutGenerators.frameRecord false ++
              [({ body := .left, frame := s.barrier.frameNo, epoch := s.epochs.epoch } : Record)]).foldl StationLog.append s.log) ∧
      t.table = s.table ∧ t.verifier = s.verifier ∧ t.port = s.port ∧ t.profile = s.profile

/-- DELAY and OFF end in ON; ON ends in OFF, or in DONE with its outcome after the last pulse. (R7, R11, R87, R88,
R151, R154, R156, R158) The model's choices in it: log entry 2. -/
def Obligations.StrobePhasesFollowTheirRecord : Prop :=
  (Decision.granted.runOutcome = .grantedRun ∧ Decision.unarbitrated.runOutcome = .privateRun) ∧
  ∀ (channel : Fin 4) (stop : Nat) (r : StrobeRecord) (s : State), s.ticking = true →
    (s.generators.get channel).phaseEnd = some stop → (s.generators.get channel).record = some r →
    (let g := s.generators.get channel
      let others (t : State) : Prop := ∀ c, c ≠ channel → t.generators.get c = s.generators.get c
      let stays (t : State) : Prop := t.now = max s.now stop ∧ t.membership = s.membership ∧
        t.sequencer = s.sequencer ∧ t.cursor = s.cursor ∧ t.epochs = s.epochs ∧ t.resolver = s.resolver ∧
        t.log = s.log ∧ t.table = s.table ∧ t.port = s.port
      let done : Generator := { g with phase := .done, phaseEnd := none, outcome := g.decision.map Decision.runOutcome }
      let drained : Generator :=
        if g.pulsesLeft = 0 then done else { g with phase := .cut, phaseEnd := none, outcome := some .cut }
      let left (ended : Generator) (truncated : Bool) (t : State) : Prop := t.membership.state = .standby ∧
        t.barrier.phase = .dormant ∧ t.barrier.pulled = false ∧
        t.log =
          ((s.setGenerator channel ended).cutGenerators.frameRecord truncated ++
            [({ body := .left, frame := s.barrier.frameNo, epoch := s.epochs.epoch } : Record)]).foldl StationLog.append s.log
      (∀ c, ((g.phase = .delay ∧ c = .strobeDelayEnd channel) ∨ (g.phase = .off ∧ c = .strobeOffEnd channel)) →
        ∃ t, exec c s = .next t ∧
          t.generators.get channel =
            { g with phase := .on, pulsesLeft := g.pulsesLeft - 1, phaseEnd := some (stop + r.onTime) } ∧
          others t ∧ stays t ∧ t.barrier.phase = s.barrier.phase ∧ t.barrier.strobesDone = s.barrier.strobesDone) ∧
      (g.phase = .on → s.barrier.phase ≠ .draining → s.barrier.strobesDone = false →
        (0 < g.pulsesLeft →
          ∃ t, exec (.strobeOnEnd channel) s = .next t ∧
            t.generators.get channel = { g with phase := .off, phaseEnd := some (stop + r.offTime) } ∧
            others t ∧ stays t ∧ t.barrier.phase = s.barrier.phase ∧ t.barrier.strobesDone = false) ∧
        (g.pulsesLeft = 0 →
          let all := ∀ c, c ≠ channel → (s.generators.get c).phase = .done ∨ (s.generators.get c).phase = .cut
          let last := all ∧ s.barrier.phase = .holding ∧ s.barrier.windowDone = true ∧ s.barrier.minTimeDone = true ∧
            s.barrier.exposuresDone = true
          ∃ t, exec (.strobeOnEnd channel) s = .next t ∧
            (¬ (last ∧ s.membership.state = .leaving) →
              t.generators.get channel = done ∧ others t ∧ stays t ∧ (t.barrier.strobesDone = true ↔ all)) ∧
            (¬ last → t.barrier.phase = s.barrier.phase ∧ t.barrier.pulled = s.barrier.pulled) ∧
            (last → s.membership.state ≠ .leaving → t.barrier.phase = .released ∧ t.barrier.pulled = false) ∧
            (last → s.membership.state = .leaving → left done false t))) ∧
      (g.phase = .on → s.barrier.phase = .draining →
        ∃ t, exec (.strobeOnEnd channel) s = .next t ∧
          ((∃ c, c ≠ channel ∧ (s.generators.get c).phase = .on) →
            t.barrier.phase = .draining ∧ others t ∧ stays t ∧
            t.generators.get channel = drained) ∧
          ((∀ c, c ≠ channel → (s.generators.get c).phase ≠ .on) → left drained true t)))

/-- A timebase loss unlocks and detaches a rig station; TCLK's return appends what waited and settles; 2,000 ticks
lock. (R2, R91, R114, R164, R167, R169, R170, R175, R176, R177, R179) The model's choices in it: log entries 2, 4, 6,
24, 25. -/
def Obligations.TimebaseLossReturnAndSettling : Prop :=
  ∀ s : State,
    (s.timebase.lost = false → s.rstnLow = false →
      ∃ t, exec .timebaseLoss s = .next t ∧ t.timebase.lost = true ∧ t.log = s.log ∧ t.now = s.now ∧
        t.timebase.divider = s.timebase.divider ∧
        (s.membership.state = .unconfigured → 
          t = { s with timebase := { s.timebase with lost := true }, barrier := (s.elapse 1).barrier }) ∧
        (s.membership.state ≠ .unconfigured → t.timebase.lock = .unlocked ∧ t.timebase.settle = 0) ∧
        ((s.membership.state = .standby ∨ s.membership.state = .detached) →
          t = { s with
            timebase := { s.timebase with lost := true, lock := .unlocked, settle := 0 }
            barrier := (s.elapse 1).barrier }) ∧
        (s.membership.state.inRig = true →
          t.membership.state = .detached ∧ t.membership.fault = some .timebaseLost ∧ t.barrier.phase = .dormant ∧
          t.barrier.pulled = false ∧ t.barrier.frameNo = 0 ∧ t.roster.members = [] ∧ t.resolver.table = none ∧
          t.epochs.epoch = 0 ∧ t.sequencer.xtrig = false ∧ t.barrier.lows = (s.elapse 1).barrier.lows ∧
          t.barrier.highs = (s.elapse 1).barrier.highs ∧ t.barrier.sampled = false ∧
          t.timebase.deferredRecords =
            s.timebase.deferredRecords ++
              (if s.membership.state.participant then s.cutGenerators.frameRecord true else []) ++
                [{ body := .fault .timebaseLost, frame := s.barrier.frameNo, epoch := s.epochs.epoch }]) ∧
        t.table = s.table ∧ t.verifier = s.verifier ∧ t.profile = s.profile ∧ t.port = s.port) ∧
    (s.timebase.lost = true → exec .timebaseLoss s = .next s) ∧
    (s.timebase.lost = false → s.rstnLow = true →
      exec .timebaseLoss s = .next { s with timebase := { s.timebase with lost := true } }) ∧
    (s.membership.state.inRig = true ↔
      s.membership.state = .listening ∨ s.membership.state = .founding ∨ s.membership.state = .joining ∨
        s.membership.state = .flushing ∨ s.membership.state = .active ∨ s.membership.state = .leaving) ∧
    (let begun (choices : Nat) : State :=
        { s with
          now := s.now + 1
          timebase :=
            { s.timebase with
              lost := false
              deferredRecords := []
              lock := if s.profile.isSome then .settling else s.timebase.lock
              settle :=
                if s.profile.isSome then 1
                else if s.timebase.lock = .settling then min 2000 (s.timebase.settle + 1)
                else s.timebase.settle }
          port := { s.port with waiting := [] }
          choices };
      s.timebase.lost = true → s.rstnLow = false →
      (s.port.waiting = [] →
        ∃ choices, exec .tclkReturn s =
          .next { begun choices with log := s.timebase.deferredRecords.foldl StationLog.append s.log }) ∧
      (s.timebase.deferredRecords = [] → ∀ c, isCommand c = true →
        (∀ image, c = .setProfile image → 14 ≤ image.length) →
        (∀ i image, c = .writePlan i image → 72 ≤ image.length) →
        (∀ code argument, c = .unassignedCommand code argument → assignedCodes.contains code = true) →
        s.port.waiting = [(c, false)] → ∃ choices, exec .tclkReturn s = exec c (begun choices)) ∧
      ((∀ c cut, (c, cut) ∈ s.port.waiting →
          isCommand c = true ∧ (∀ image, c = .setProfile image → 14 ≤ image.length) ∧
          (∀ i image, c = .writePlan i image → 72 ≤ image.length) ∧
          ∀ code argument, c = .unassignedCommand code argument → assignedCodes.contains code = true) →
        let taken (u : State) (c : Instr) (cut : Bool) : State :=
          match exec c u with
          | .next v =>
            if cut then
              { v with
                port := u.port
                log :=
                  match v.port.logTaken with
                  | .nothing => v.log
                  | .record => { v.log with gap := min 65535 (v.log.gap + 1) }
                  | .gap n => { v.log with gap := min 65535 (v.log.gap + n) } }
            else v
          | .fault _ | .refused _ => u
        ∃ choices order,
          (order.filterMap fun x => match x with | .record r => some r | .command _ _ => none) =
            s.timebase.deferredRecords ∧
          (order.filterMap fun x => match x with | .record _ => none | .command c cut => some (c, cut)) =
            s.port.waiting ∧
          (∀ before cut after_, order = before ++ Returning.command .restart cut :: after_ →
            ∀ r f, Returning.record r ∈ after_ → r.body ≠ .frame f) ∧
          exec .tclkReturn s =
            .next
              (order.foldl
                (fun u x =>
                  match x with
                  | .record r => { u with log := u.log.append r }
                  | .command c cut => taken u c cut)
                (begun choices)))) ∧
    (s.timebase.lost = true → s.rstnLow = true →
      ∃ choices, exec .tclkReturn s =
        .next { s with
          timebase :=
            { s.timebase with
              lost := false
              deferredRecords := []
              lock := if s.profile.isSome then .settling else s.timebase.lock
              settle := if s.profile.isSome then 0 else s.timebase.settle }
          port := { s.port with waiting := [] }
          choices }) ∧
    (s.timebase.lost = false → exec .tclkReturn s = .next s) ∧
    (s.ticking = true → s.timebase.lock = .settling → s.timebase.settle ≤ 2000 →
      ∃ t, exec .settleCountComplete s = .next t ∧ t.timebase = { s.timebase with lock := .locked, settle := 2000 } ∧
        t.now = s.now + (2000 - s.timebase.settle) ∧ t.membership = s.membership ∧ t.log = s.log ∧ t.port = s.port ∧
        t.table = s.table ∧ t.cursor = s.cursor ∧ t.epochs = s.epochs ∧ t.roster = s.roster) ∧
    (s.timebase.lock ≠ .settling → exec .settleCountComplete s = .next s)

/-- An append joins behind; with 64 records it first drops the oldest and counts it up to 65,535. (R163) -/
def Obligations.AppendsKeepTheNewestRecordsAndCountTheRest : Prop :=
  ∀ (l : StationLog) (r : Record),
    (l.queue.length < 64 → (l.append r).queue = l.queue ++ [r] ∧ (l.append r).gap = l.gap) ∧
    (∀ oldest rest, l.queue = oldest :: rest → l.queue.length = 64 →
      (l.append r).queue = rest ++ [r] ∧ (l.append r).queue.length = 64 ∧
      (l.gap < 65535 → (l.append r).gap = l.gap + 1) ∧ (l.gap = 65535 → (l.append r).gap = 65535)) ∧
    (l.queue.length ≤ 64 → (l.append r).queue.length ≤ 64 ∧ (l.append r).queue.getLast? = some r)

/-- The reset state has its blocks in agreement, its lanes lawful, its log in bounds and its roster ascending. (R20,
R38, R54, R70, R71, R143, R150, R159) -/
def Obligations.ResetStateIsInOrder : Prop :=
  State.reset.inOrder = true ∧ State.reset.lanesLawful = true ∧ State.reset.log.bounded = true ∧
    State.reset.rosterAscending = true

/-- Every step keeps the blocks in agreement: FRAME is pulled only where the station state and phase say so. (R1, R4,
R12, R41, R57, R71, R84, R91, R143, R155, R175, R177) -/
def Obligations.EveryStepKeepsTheBlocksInOrder : Prop :=
  ∀ s t : State, s.inOrder = true → step s = .next t → t.inOrder = true

/-- No step makes the station light a lane that its resolver did not grant. (R55, R62, R63, R64, R66, R67, R150) -/
def Obligations.EveryStepKeepsLightLanesLawful : Prop :=
  ∀ s t : State, s.inOrder = true → s.lanesLawful = true → step s = .next t →
    t.lanesLawful = true ∧ ∀ lane, t.drivesLane lane = true → t.resolver.inUse.getLsbD lane.val = true

/-- Every step keeps the log within 64 records and 65,535 gaps, and the roster one entry per index, ascending. (R39,
R159, R163, R167) -/
def Obligations.EveryStepKeepsLogAndRosterInForm : Prop :=
  ∀ s t : State, step s = .next t →
    (s.log.bounded = true → t.log.bounded = true) ∧ (s.rosterAscending = true → t.rosterAscending = true)
end

