-- ==== Sys2Proof/Laws/State.lean ====
section
/-! SUPPORT. What each named update leaves as it was: one lemma per field and update, each true by rfl. -/

namespace Sys2Proof.Machine

/-! ### reply -/

@[simp] theorem State.reply_pending (code : ResultCode) (s : State) : (s.reply code).pending = s.pending := rfl
@[simp] theorem State.reply_now (code : ResultCode) (s : State) : (s.reply code).now = s.now := rfl
@[simp] theorem State.reply_choices (code : ResultCode) (s : State) : (s.reply code).choices = s.choices := rfl
@[simp] theorem State.reply_rstnLow (code : ResultCode) (s : State) : (s.reply code).rstnLow = s.rstnLow := rfl
@[simp] theorem State.reply_frameIn (code : ResultCode) (s : State) : (s.reply code).frameIn = s.frameIn := rfl
@[simp] theorem State.reply_store (code : ResultCode) (s : State) : (s.reply code).store = s.store := rfl
@[simp] theorem State.reply_profile (code : ResultCode) (s : State) : (s.reply code).profile = s.profile := rfl
@[simp] theorem State.reply_digest (code : ResultCode) (s : State) : (s.reply code).digest = s.digest := rfl
@[simp] theorem State.reply_timebase (code : ResultCode) (s : State) : (s.reply code).timebase = s.timebase := rfl
@[simp] theorem State.reply_membership (code : ResultCode) (s : State) : (s.reply code).membership = s.membership := rfl
@[simp] theorem State.reply_barrier (code : ResultCode) (s : State) : (s.reply code).barrier = s.barrier := rfl
@[simp] theorem State.reply_transceiver (code : ResultCode) (s : State) : (s.reply code).transceiver = s.transceiver := rfl
@[simp] theorem State.reply_roster (code : ResultCode) (s : State) : (s.reply code).roster = s.roster := rfl
@[simp] theorem State.reply_resolver (code : ResultCode) (s : State) : (s.reply code).resolver = s.resolver := rfl
@[simp] theorem State.reply_table (code : ResultCode) (s : State) : (s.reply code).table = s.table := rfl
@[simp] theorem State.reply_verifier (code : ResultCode) (s : State) : (s.reply code).verifier = s.verifier := rfl
@[simp] theorem State.reply_cursor (code : ResultCode) (s : State) : (s.reply code).cursor = s.cursor := rfl
@[simp] theorem State.reply_epochs (code : ResultCode) (s : State) : (s.reply code).epochs = s.epochs := rfl
@[simp] theorem State.reply_sequencer (code : ResultCode) (s : State) : (s.reply code).sequencer = s.sequencer := rfl
@[simp] theorem State.reply_generators (code : ResultCode) (s : State) : (s.reply code).generators = s.generators := rfl
@[simp] theorem State.reply_log (code : ResultCode) (s : State) : (s.reply code).log = s.log := rfl

/-! ### replyWith -/

@[simp] theorem State.replyWith_pending (code : ResultCode) (data : List Byte) (s : State) : (s.replyWith code data).pending = s.pending := rfl
@[simp] theorem State.replyWith_now (code : ResultCode) (data : List Byte) (s : State) : (s.replyWith code data).now = s.now := rfl
@[simp] theorem State.replyWith_choices (code : ResultCode) (data : List Byte) (s : State) : (s.replyWith code data).choices = s.choices := rfl
@[simp] theorem State.replyWith_rstnLow (code : ResultCode) (data : List Byte) (s : State) : (s.replyWith code data).rstnLow = s.rstnLow := rfl
@[simp] theorem State.replyWith_frameIn (code : ResultCode) (data : List Byte) (s : State) : (s.replyWith code data).frameIn = s.frameIn := rfl
@[simp] theorem State.replyWith_store (code : ResultCode) (data : List Byte) (s : State) : (s.replyWith code data).store = s.store := rfl
@[simp] theorem State.replyWith_profile (code : ResultCode) (data : List Byte) (s : State) : (s.replyWith code data).profile = s.profile := rfl
@[simp] theorem State.replyWith_digest (code : ResultCode) (data : List Byte) (s : State) : (s.replyWith code data).digest = s.digest := rfl
@[simp] theorem State.replyWith_timebase (code : ResultCode) (data : List Byte) (s : State) : (s.replyWith code data).timebase = s.timebase := rfl
@[simp] theorem State.replyWith_membership (code : ResultCode) (data : List Byte) (s : State) : (s.replyWith code data).membership = s.membership := rfl
@[simp] theorem State.replyWith_barrier (code : ResultCode) (data : List Byte) (s : State) : (s.replyWith code data).barrier = s.barrier := rfl
@[simp] theorem State.replyWith_transceiver (code : ResultCode) (data : List Byte) (s : State) : (s.replyWith code data).transceiver = s.transceiver := rfl
@[simp] theorem State.replyWith_roster (code : ResultCode) (data : List Byte) (s : State) : (s.replyWith code data).roster = s.roster := rfl
@[simp] theorem State.replyWith_resolver (code : ResultCode) (data : List Byte) (s : State) : (s.replyWith code data).resolver = s.resolver := rfl
@[simp] theorem State.replyWith_table (code : ResultCode) (data : List Byte) (s : State) : (s.replyWith code data).table = s.table := rfl
@[simp] theorem State.replyWith_verifier (code : ResultCode) (data : List Byte) (s : State) : (s.replyWith code data).verifier = s.verifier := rfl
@[simp] theorem State.replyWith_cursor (code : ResultCode) (data : List Byte) (s : State) : (s.replyWith code data).cursor = s.cursor := rfl
@[simp] theorem State.replyWith_epochs (code : ResultCode) (data : List Byte) (s : State) : (s.replyWith code data).epochs = s.epochs := rfl
@[simp] theorem State.replyWith_sequencer (code : ResultCode) (data : List Byte) (s : State) : (s.replyWith code data).sequencer = s.sequencer := rfl
@[simp] theorem State.replyWith_generators (code : ResultCode) (data : List Byte) (s : State) : (s.replyWith code data).generators = s.generators := rfl
@[simp] theorem State.replyWith_log (code : ResultCode) (data : List Byte) (s : State) : (s.replyWith code data).log = s.log := rfl

/-! ### noReply -/

@[simp] theorem State.noReply_pending (s : State) : (s.noReply).pending = s.pending := rfl
@[simp] theorem State.noReply_now (s : State) : (s.noReply).now = s.now := rfl
@[simp] theorem State.noReply_choices (s : State) : (s.noReply).choices = s.choices := rfl
@[simp] theorem State.noReply_rstnLow (s : State) : (s.noReply).rstnLow = s.rstnLow := rfl
@[simp] theorem State.noReply_frameIn (s : State) : (s.noReply).frameIn = s.frameIn := rfl
@[simp] theorem State.noReply_store (s : State) : (s.noReply).store = s.store := rfl
@[simp] theorem State.noReply_profile (s : State) : (s.noReply).profile = s.profile := rfl
@[simp] theorem State.noReply_digest (s : State) : (s.noReply).digest = s.digest := rfl
@[simp] theorem State.noReply_timebase (s : State) : (s.noReply).timebase = s.timebase := rfl
@[simp] theorem State.noReply_membership (s : State) : (s.noReply).membership = s.membership := rfl
@[simp] theorem State.noReply_barrier (s : State) : (s.noReply).barrier = s.barrier := rfl
@[simp] theorem State.noReply_transceiver (s : State) : (s.noReply).transceiver = s.transceiver := rfl
@[simp] theorem State.noReply_roster (s : State) : (s.noReply).roster = s.roster := rfl
@[simp] theorem State.noReply_resolver (s : State) : (s.noReply).resolver = s.resolver := rfl
@[simp] theorem State.noReply_table (s : State) : (s.noReply).table = s.table := rfl
@[simp] theorem State.noReply_verifier (s : State) : (s.noReply).verifier = s.verifier := rfl
@[simp] theorem State.noReply_cursor (s : State) : (s.noReply).cursor = s.cursor := rfl
@[simp] theorem State.noReply_epochs (s : State) : (s.noReply).epochs = s.epochs := rfl
@[simp] theorem State.noReply_sequencer (s : State) : (s.noReply).sequencer = s.sequencer := rfl
@[simp] theorem State.noReply_generators (s : State) : (s.noReply).generators = s.generators := rfl
@[simp] theorem State.noReply_log (s : State) : (s.noReply).log = s.log := rfl

/-! ### logChains -/

@[simp] theorem State.logChains_pending (chains : List (List Record)) (s : State) : (s.logChains chains).pending = s.pending := rfl
@[simp] theorem State.logChains_now (chains : List (List Record)) (s : State) : (s.logChains chains).now = s.now := rfl
@[simp] theorem State.logChains_rstnLow (chains : List (List Record)) (s : State) : (s.logChains chains).rstnLow = s.rstnLow := rfl
@[simp] theorem State.logChains_frameIn (chains : List (List Record)) (s : State) : (s.logChains chains).frameIn = s.frameIn := rfl
@[simp] theorem State.logChains_store (chains : List (List Record)) (s : State) : (s.logChains chains).store = s.store := rfl
@[simp] theorem State.logChains_profile (chains : List (List Record)) (s : State) : (s.logChains chains).profile = s.profile := rfl
@[simp] theorem State.logChains_digest (chains : List (List Record)) (s : State) : (s.logChains chains).digest = s.digest := rfl
@[simp] theorem State.logChains_timebase (chains : List (List Record)) (s : State) : (s.logChains chains).timebase = s.timebase := rfl
@[simp] theorem State.logChains_port (chains : List (List Record)) (s : State) : (s.logChains chains).port = s.port := rfl
@[simp] theorem State.logChains_membership (chains : List (List Record)) (s : State) : (s.logChains chains).membership = s.membership := rfl
@[simp] theorem State.logChains_barrier (chains : List (List Record)) (s : State) : (s.logChains chains).barrier = s.barrier := rfl
@[simp] theorem State.logChains_transceiver (chains : List (List Record)) (s : State) : (s.logChains chains).transceiver = s.transceiver := rfl
@[simp] theorem State.logChains_roster (chains : List (List Record)) (s : State) : (s.logChains chains).roster = s.roster := rfl
@[simp] theorem State.logChains_resolver (chains : List (List Record)) (s : State) : (s.logChains chains).resolver = s.resolver := rfl
@[simp] theorem State.logChains_table (chains : List (List Record)) (s : State) : (s.logChains chains).table = s.table := rfl
@[simp] theorem State.logChains_verifier (chains : List (List Record)) (s : State) : (s.logChains chains).verifier = s.verifier := rfl
@[simp] theorem State.logChains_cursor (chains : List (List Record)) (s : State) : (s.logChains chains).cursor = s.cursor := rfl
@[simp] theorem State.logChains_epochs (chains : List (List Record)) (s : State) : (s.logChains chains).epochs = s.epochs := rfl
@[simp] theorem State.logChains_sequencer (chains : List (List Record)) (s : State) : (s.logChains chains).sequencer = s.sequencer := rfl
@[simp] theorem State.logChains_generators (chains : List (List Record)) (s : State) : (s.logChains chains).generators = s.generators := rfl

/-! ### elapse -/

@[simp] theorem State.elapse_pending (k : Nat) (s : State) : (s.elapse k).pending = s.pending := rfl
@[simp] theorem State.elapse_choices (k : Nat) (s : State) : (s.elapse k).choices = s.choices := rfl
@[simp] theorem State.elapse_rstnLow (k : Nat) (s : State) : (s.elapse k).rstnLow = s.rstnLow := rfl
@[simp] theorem State.elapse_frameIn (k : Nat) (s : State) : (s.elapse k).frameIn = s.frameIn := rfl
@[simp] theorem State.elapse_store (k : Nat) (s : State) : (s.elapse k).store = s.store := rfl
@[simp] theorem State.elapse_profile (k : Nat) (s : State) : (s.elapse k).profile = s.profile := rfl
@[simp] theorem State.elapse_digest (k : Nat) (s : State) : (s.elapse k).digest = s.digest := rfl
@[simp] theorem State.elapse_port (k : Nat) (s : State) : (s.elapse k).port = s.port := rfl
@[simp] theorem State.elapse_membership (k : Nat) (s : State) : (s.elapse k).membership = s.membership := rfl
@[simp] theorem State.elapse_transceiver (k : Nat) (s : State) : (s.elapse k).transceiver = s.transceiver := rfl
@[simp] theorem State.elapse_roster (k : Nat) (s : State) : (s.elapse k).roster = s.roster := rfl
@[simp] theorem State.elapse_resolver (k : Nat) (s : State) : (s.elapse k).resolver = s.resolver := rfl
@[simp] theorem State.elapse_table (k : Nat) (s : State) : (s.elapse k).table = s.table := rfl
@[simp] theorem State.elapse_verifier (k : Nat) (s : State) : (s.elapse k).verifier = s.verifier := rfl
@[simp] theorem State.elapse_cursor (k : Nat) (s : State) : (s.elapse k).cursor = s.cursor := rfl
@[simp] theorem State.elapse_epochs (k : Nat) (s : State) : (s.elapse k).epochs = s.epochs := rfl
@[simp] theorem State.elapse_sequencer (k : Nat) (s : State) : (s.elapse k).sequencer = s.sequencer := rfl
@[simp] theorem State.elapse_generators (k : Nat) (s : State) : (s.elapse k).generators = s.generators := rfl
@[simp] theorem State.elapse_log (k : Nat) (s : State) : (s.elapse k).log = s.log := rfl

/-! ### advanceTo -/

@[simp] theorem State.advanceTo_pending (t : Nat) (s : State) : (s.advanceTo t).pending = s.pending := rfl
@[simp] theorem State.advanceTo_choices (t : Nat) (s : State) : (s.advanceTo t).choices = s.choices := rfl
@[simp] theorem State.advanceTo_rstnLow (t : Nat) (s : State) : (s.advanceTo t).rstnLow = s.rstnLow := rfl
@[simp] theorem State.advanceTo_frameIn (t : Nat) (s : State) : (s.advanceTo t).frameIn = s.frameIn := rfl
@[simp] theorem State.advanceTo_store (t : Nat) (s : State) : (s.advanceTo t).store = s.store := rfl
@[simp] theorem State.advanceTo_profile (t : Nat) (s : State) : (s.advanceTo t).profile = s.profile := rfl
@[simp] theorem State.advanceTo_digest (t : Nat) (s : State) : (s.advanceTo t).digest = s.digest := rfl
@[simp] theorem State.advanceTo_port (t : Nat) (s : State) : (s.advanceTo t).port = s.port := rfl
@[simp] theorem State.advanceTo_membership (t : Nat) (s : State) : (s.advanceTo t).membership = s.membership := rfl
@[simp] theorem State.advanceTo_transceiver (t : Nat) (s : State) : (s.advanceTo t).transceiver = s.transceiver := rfl
@[simp] theorem State.advanceTo_roster (t : Nat) (s : State) : (s.advanceTo t).roster = s.roster := rfl
@[simp] theorem State.advanceTo_resolver (t : Nat) (s : State) : (s.advanceTo t).resolver = s.resolver := rfl
@[simp] theorem State.advanceTo_table (t : Nat) (s : State) : (s.advanceTo t).table = s.table := rfl
@[simp] theorem State.advanceTo_verifier (t : Nat) (s : State) : (s.advanceTo t).verifier = s.verifier := rfl
@[simp] theorem State.advanceTo_cursor (t : Nat) (s : State) : (s.advanceTo t).cursor = s.cursor := rfl
@[simp] theorem State.advanceTo_epochs (t : Nat) (s : State) : (s.advanceTo t).epochs = s.epochs := rfl
@[simp] theorem State.advanceTo_sequencer (t : Nat) (s : State) : (s.advanceTo t).sequencer = s.sequencer := rfl
@[simp] theorem State.advanceTo_generators (t : Nat) (s : State) : (s.advanceTo t).generators = s.generators := rfl
@[simp] theorem State.advanceTo_log (t : Nat) (s : State) : (s.advanceTo t).log = s.log := rfl

/-! ### mapGenerators -/

@[simp] theorem State.mapGenerators_pending (f : Generator → Generator) (s : State) : (s.mapGenerators f).pending = s.pending := rfl
@[simp] theorem State.mapGenerators_now (f : Generator → Generator) (s : State) : (s.mapGenerators f).now = s.now := rfl
@[simp] theorem State.mapGenerators_choices (f : Generator → Generator) (s : State) : (s.mapGenerators f).choices = s.choices := rfl
@[simp] theorem State.mapGenerators_rstnLow (f : Generator → Generator) (s : State) : (s.mapGenerators f).rstnLow = s.rstnLow := rfl
@[simp] theorem State.mapGenerators_frameIn (f : Generator → Generator) (s : State) : (s.mapGenerators f).frameIn = s.frameIn := rfl
@[simp] theorem State.mapGenerators_store (f : Generator → Generator) (s : State) : (s.mapGenerators f).store = s.store := rfl
@[simp] theorem State.mapGenerators_profile (f : Generator → Generator) (s : State) : (s.mapGenerators f).profile = s.profile := rfl
@[simp] theorem State.mapGenerators_digest (f : Generator → Generator) (s : State) : (s.mapGenerators f).digest = s.digest := rfl
@[simp] theorem State.mapGenerators_timebase (f : Generator → Generator) (s : State) : (s.mapGenerators f).timebase = s.timebase := rfl
@[simp] theorem State.mapGenerators_port (f : Generator → Generator) (s : State) : (s.mapGenerators f).port = s.port := rfl
@[simp] theorem State.mapGenerators_membership (f : Generator → Generator) (s : State) : (s.mapGenerators f).membership = s.membership := rfl
@[simp] theorem State.mapGenerators_barrier (f : Generator → Generator) (s : State) : (s.mapGenerators f).barrier = s.barrier := rfl
@[simp] theorem State.mapGenerators_transceiver (f : Generator → Generator) (s : State) : (s.mapGenerators f).transceiver = s.transceiver := rfl
@[simp] theorem State.mapGenerators_roster (f : Generator → Generator) (s : State) : (s.mapGenerators f).roster = s.roster := rfl
@[simp] theorem State.mapGenerators_resolver (f : Generator → Generator) (s : State) : (s.mapGenerators f).resolver = s.resolver := rfl
@[simp] theorem State.mapGenerators_table (f : Generator → Generator) (s : State) : (s.mapGenerators f).table = s.table := rfl
@[simp] theorem State.mapGenerators_verifier (f : Generator → Generator) (s : State) : (s.mapGenerators f).verifier = s.verifier := rfl
@[simp] theorem State.mapGenerators_cursor (f : Generator → Generator) (s : State) : (s.mapGenerators f).cursor = s.cursor := rfl
@[simp] theorem State.mapGenerators_epochs (f : Generator → Generator) (s : State) : (s.mapGenerators f).epochs = s.epochs := rfl
@[simp] theorem State.mapGenerators_sequencer (f : Generator → Generator) (s : State) : (s.mapGenerators f).sequencer = s.sequencer := rfl
@[simp] theorem State.mapGenerators_log (f : Generator → Generator) (s : State) : (s.mapGenerators f).log = s.log := rfl

/-! ### setGenerator -/

@[simp] theorem State.setGenerator_pending (channel : Fin 4) (g : Generator) (s : State) : (s.setGenerator channel g).pending = s.pending := rfl
@[simp] theorem State.setGenerator_now (channel : Fin 4) (g : Generator) (s : State) : (s.setGenerator channel g).now = s.now := rfl
@[simp] theorem State.setGenerator_choices (channel : Fin 4) (g : Generator) (s : State) : (s.setGenerator channel g).choices = s.choices := rfl
@[simp] theorem State.setGenerator_rstnLow (channel : Fin 4) (g : Generator) (s : State) : (s.setGenerator channel g).rstnLow = s.rstnLow := rfl
@[simp] theorem State.setGenerator_frameIn (channel : Fin 4) (g : Generator) (s : State) : (s.setGenerator channel g).frameIn = s.frameIn := rfl
@[simp] theorem State.setGenerator_store (channel : Fin 4) (g : Generator) (s : State) : (s.setGenerator channel g).store = s.store := rfl
@[simp] theorem State.setGenerator_profile (channel : Fin 4) (g : Generator) (s : State) : (s.setGenerator channel g).profile = s.profile := rfl
@[simp] theorem State.setGenerator_digest (channel : Fin 4) (g : Generator) (s : State) : (s.setGenerator channel g).digest = s.digest := rfl
@[simp] theorem State.setGenerator_timebase (channel : Fin 4) (g : Generator) (s : State) : (s.setGenerator channel g).timebase = s.timebase := rfl
@[simp] theorem State.setGenerator_port (channel : Fin 4) (g : Generator) (s : State) : (s.setGenerator channel g).port = s.port := rfl
@[simp] theorem State.setGenerator_membership (channel : Fin 4) (g : Generator) (s : State) : (s.setGenerator channel g).membership = s.membership := rfl
@[simp] theorem State.setGenerator_barrier (channel : Fin 4) (g : Generator) (s : State) : (s.setGenerator channel g).barrier = s.barrier := rfl
@[simp] theorem State.setGenerator_transceiver (channel : Fin 4) (g : Generator) (s : State) : (s.setGenerator channel g).transceiver = s.transceiver := rfl
@[simp] theorem State.setGenerator_roster (channel : Fin 4) (g : Generator) (s : State) : (s.setGenerator channel g).roster = s.roster := rfl
@[simp] theorem State.setGenerator_resolver (channel : Fin 4) (g : Generator) (s : State) : (s.setGenerator channel g).resolver = s.resolver := rfl
@[simp] theorem State.setGenerator_table (channel : Fin 4) (g : Generator) (s : State) : (s.setGenerator channel g).table = s.table := rfl
@[simp] theorem State.setGenerator_verifier (channel : Fin 4) (g : Generator) (s : State) : (s.setGenerator channel g).verifier = s.verifier := rfl
@[simp] theorem State.setGenerator_cursor (channel : Fin 4) (g : Generator) (s : State) : (s.setGenerator channel g).cursor = s.cursor := rfl
@[simp] theorem State.setGenerator_epochs (channel : Fin 4) (g : Generator) (s : State) : (s.setGenerator channel g).epochs = s.epochs := rfl
@[simp] theorem State.setGenerator_sequencer (channel : Fin 4) (g : Generator) (s : State) : (s.setGenerator channel g).sequencer = s.sequencer := rfl
@[simp] theorem State.setGenerator_log (channel : Fin 4) (g : Generator) (s : State) : (s.setGenerator channel g).log = s.log := rfl

/-! ### handReference -/

@[simp] theorem State.handReference_pending (ref : Reference) (t : Nat) (s : State) : (s.handReference ref t).pending = s.pending := rfl
@[simp] theorem State.handReference_now (ref : Reference) (t : Nat) (s : State) : (s.handReference ref t).now = s.now := rfl
@[simp] theorem State.handReference_choices (ref : Reference) (t : Nat) (s : State) : (s.handReference ref t).choices = s.choices := rfl
@[simp] theorem State.handReference_rstnLow (ref : Reference) (t : Nat) (s : State) : (s.handReference ref t).rstnLow = s.rstnLow := rfl
@[simp] theorem State.handReference_frameIn (ref : Reference) (t : Nat) (s : State) : (s.handReference ref t).frameIn = s.frameIn := rfl
@[simp] theorem State.handReference_store (ref : Reference) (t : Nat) (s : State) : (s.handReference ref t).store = s.store := rfl
@[simp] theorem State.handReference_profile (ref : Reference) (t : Nat) (s : State) : (s.handReference ref t).profile = s.profile := rfl
@[simp] theorem State.handReference_digest (ref : Reference) (t : Nat) (s : State) : (s.handReference ref t).digest = s.digest := rfl
@[simp] theorem State.handReference_timebase (ref : Reference) (t : Nat) (s : State) : (s.handReference ref t).timebase = s.timebase := rfl
@[simp] theorem State.handReference_port (ref : Reference) (t : Nat) (s : State) : (s.handReference ref t).port = s.port := rfl
@[simp] theorem State.handReference_membership (ref : Reference) (t : Nat) (s : State) : (s.handReference ref t).membership = s.membership := rfl
@[simp] theorem State.handReference_barrier (ref : Reference) (t : Nat) (s : State) : (s.handReference ref t).barrier = s.barrier := rfl
@[simp] theorem State.handReference_transceiver (ref : Reference) (t : Nat) (s : State) : (s.handReference ref t).transceiver = s.transceiver := rfl
@[simp] theorem State.handReference_roster (ref : Reference) (t : Nat) (s : State) : (s.handReference ref t).roster = s.roster := rfl
@[simp] theorem State.handReference_resolver (ref : Reference) (t : Nat) (s : State) : (s.handReference ref t).resolver = s.resolver := rfl
@[simp] theorem State.handReference_table (ref : Reference) (t : Nat) (s : State) : (s.handReference ref t).table = s.table := rfl
@[simp] theorem State.handReference_verifier (ref : Reference) (t : Nat) (s : State) : (s.handReference ref t).verifier = s.verifier := rfl
@[simp] theorem State.handReference_cursor (ref : Reference) (t : Nat) (s : State) : (s.handReference ref t).cursor = s.cursor := rfl
@[simp] theorem State.handReference_epochs (ref : Reference) (t : Nat) (s : State) : (s.handReference ref t).epochs = s.epochs := rfl
@[simp] theorem State.handReference_sequencer (ref : Reference) (t : Nat) (s : State) : (s.handReference ref t).sequencer = s.sequencer := rfl
@[simp] theorem State.handReference_log (ref : Reference) (t : Nat) (s : State) : (s.handReference ref t).log = s.log := rfl

/-! ### dropReferences -/

@[simp] theorem State.dropReferences_pending (refs : List Reference) (s : State) : (s.dropReferences refs).pending = s.pending := rfl
@[simp] theorem State.dropReferences_now (refs : List Reference) (s : State) : (s.dropReferences refs).now = s.now := rfl
@[simp] theorem State.dropReferences_choices (refs : List Reference) (s : State) : (s.dropReferences refs).choices = s.choices := rfl
@[simp] theorem State.dropReferences_rstnLow (refs : List Reference) (s : State) : (s.dropReferences refs).rstnLow = s.rstnLow := rfl
@[simp] theorem State.dropReferences_frameIn (refs : List Reference) (s : State) : (s.dropReferences refs).frameIn = s.frameIn := rfl
@[simp] theorem State.dropReferences_store (refs : List Reference) (s : State) : (s.dropReferences refs).store = s.store := rfl
@[simp] theorem State.dropReferences_profile (refs : List Reference) (s : State) : (s.dropReferences refs).profile = s.profile := rfl
@[simp] theorem State.dropReferences_digest (refs : List Reference) (s : State) : (s.dropReferences refs).digest = s.digest := rfl
@[simp] theorem State.dropReferences_timebase (refs : List Reference) (s : State) : (s.dropReferences refs).timebase = s.timebase := rfl
@[simp] theorem State.dropReferences_port (refs : List Reference) (s : State) : (s.dropReferences refs).port = s.port := rfl
@[simp] theorem State.dropReferences_membership (refs : List Reference) (s : State) : (s.dropReferences refs).membership = s.membership := rfl
@[simp] theorem State.dropReferences_barrier (refs : List Reference) (s : State) : (s.dropReferences refs).barrier = s.barrier := rfl
@[simp] theorem State.dropReferences_transceiver (refs : List Reference) (s : State) : (s.dropReferences refs).transceiver = s.transceiver := rfl
@[simp] theorem State.dropReferences_roster (refs : List Reference) (s : State) : (s.dropReferences refs).roster = s.roster := rfl
@[simp] theorem State.dropReferences_resolver (refs : List Reference) (s : State) : (s.dropReferences refs).resolver = s.resolver := rfl
@[simp] theorem State.dropReferences_table (refs : List Reference) (s : State) : (s.dropReferences refs).table = s.table := rfl
@[simp] theorem State.dropReferences_verifier (refs : List Reference) (s : State) : (s.dropReferences refs).verifier = s.verifier := rfl
@[simp] theorem State.dropReferences_cursor (refs : List Reference) (s : State) : (s.dropReferences refs).cursor = s.cursor := rfl
@[simp] theorem State.dropReferences_epochs (refs : List Reference) (s : State) : (s.dropReferences refs).epochs = s.epochs := rfl
@[simp] theorem State.dropReferences_sequencer (refs : List Reference) (s : State) : (s.dropReferences refs).sequencer = s.sequencer := rfl
@[simp] theorem State.dropReferences_log (refs : List Reference) (s : State) : (s.dropReferences refs).log = s.log := rfl

/-! ### cutGenerators -/

@[simp] theorem State.cutGenerators_pending (s : State) : (s.cutGenerators).pending = s.pending := rfl
@[simp] theorem State.cutGenerators_now (s : State) : (s.cutGenerators).now = s.now := rfl
@[simp] theorem State.cutGenerators_choices (s : State) : (s.cutGenerators).choices = s.choices := rfl
@[simp] theorem State.cutGenerators_rstnLow (s : State) : (s.cutGenerators).rstnLow = s.rstnLow := rfl
@[simp] theorem State.cutGenerators_frameIn (s : State) : (s.cutGenerators).frameIn = s.frameIn := rfl
@[simp] theorem State.cutGenerators_store (s : State) : (s.cutGenerators).store = s.store := rfl
@[simp] theorem State.cutGenerators_profile (s : State) : (s.cutGenerators).profile = s.profile := rfl
@[simp] theorem State.cutGenerators_digest (s : State) : (s.cutGenerators).digest = s.digest := rfl
@[simp] theorem State.cutGenerators_timebase (s : State) : (s.cutGenerators).timebase = s.timebase := rfl
@[simp] theorem State.cutGenerators_port (s : State) : (s.cutGenerators).port = s.port := rfl
@[simp] theorem State.cutGenerators_membership (s : State) : (s.cutGenerators).membership = s.membership := rfl
@[simp] theorem State.cutGenerators_barrier (s : State) : (s.cutGenerators).barrier = s.barrier := rfl
@[simp] theorem State.cutGenerators_transceiver (s : State) : (s.cutGenerators).transceiver = s.transceiver := rfl
@[simp] theorem State.cutGenerators_roster (s : State) : (s.cutGenerators).roster = s.roster := rfl
@[simp] theorem State.cutGenerators_resolver (s : State) : (s.cutGenerators).resolver = s.resolver := rfl
@[simp] theorem State.cutGenerators_table (s : State) : (s.cutGenerators).table = s.table := rfl
@[simp] theorem State.cutGenerators_verifier (s : State) : (s.cutGenerators).verifier = s.verifier := rfl
@[simp] theorem State.cutGenerators_cursor (s : State) : (s.cutGenerators).cursor = s.cursor := rfl
@[simp] theorem State.cutGenerators_epochs (s : State) : (s.cutGenerators).epochs = s.epochs := rfl
@[simp] theorem State.cutGenerators_sequencer (s : State) : (s.cutGenerators).sequencer = s.sequencer := rfl
@[simp] theorem State.cutGenerators_log (s : State) : (s.cutGenerators).log = s.log := rfl

/-! ### reportStrobes -/

@[simp] theorem State.reportStrobes_pending (s : State) : (s.reportStrobes).pending = s.pending := rfl
@[simp] theorem State.reportStrobes_now (s : State) : (s.reportStrobes).now = s.now := rfl
@[simp] theorem State.reportStrobes_choices (s : State) : (s.reportStrobes).choices = s.choices := rfl
@[simp] theorem State.reportStrobes_rstnLow (s : State) : (s.reportStrobes).rstnLow = s.rstnLow := rfl
@[simp] theorem State.reportStrobes_frameIn (s : State) : (s.reportStrobes).frameIn = s.frameIn := rfl
@[simp] theorem State.reportStrobes_store (s : State) : (s.reportStrobes).store = s.store := rfl
@[simp] theorem State.reportStrobes_profile (s : State) : (s.reportStrobes).profile = s.profile := rfl
@[simp] theorem State.reportStrobes_digest (s : State) : (s.reportStrobes).digest = s.digest := rfl
@[simp] theorem State.reportStrobes_timebase (s : State) : (s.reportStrobes).timebase = s.timebase := rfl
@[simp] theorem State.reportStrobes_port (s : State) : (s.reportStrobes).port = s.port := rfl
@[simp] theorem State.reportStrobes_membership (s : State) : (s.reportStrobes).membership = s.membership := rfl
@[simp] theorem State.reportStrobes_transceiver (s : State) : (s.reportStrobes).transceiver = s.transceiver := rfl
@[simp] theorem State.reportStrobes_roster (s : State) : (s.reportStrobes).roster = s.roster := rfl
@[simp] theorem State.reportStrobes_resolver (s : State) : (s.reportStrobes).resolver = s.resolver := rfl
@[simp] theorem State.reportStrobes_table (s : State) : (s.reportStrobes).table = s.table := rfl
@[simp] theorem State.reportStrobes_verifier (s : State) : (s.reportStrobes).verifier = s.verifier := rfl
@[simp] theorem State.reportStrobes_cursor (s : State) : (s.reportStrobes).cursor = s.cursor := rfl
@[simp] theorem State.reportStrobes_epochs (s : State) : (s.reportStrobes).epochs = s.epochs := rfl
@[simp] theorem State.reportStrobes_sequencer (s : State) : (s.reportStrobes).sequencer = s.sequencer := rfl
@[simp] theorem State.reportStrobes_generators (s : State) : (s.reportStrobes).generators = s.generators := rfl
@[simp] theorem State.reportStrobes_log (s : State) : (s.reportStrobes).log = s.log := rfl

/-! ### stopSequencer -/

@[simp] theorem State.stopSequencer_pending (s : State) : (s.stopSequencer).pending = s.pending := rfl
@[simp] theorem State.stopSequencer_now (s : State) : (s.stopSequencer).now = s.now := rfl
@[simp] theorem State.stopSequencer_choices (s : State) : (s.stopSequencer).choices = s.choices := rfl
@[simp] theorem State.stopSequencer_rstnLow (s : State) : (s.stopSequencer).rstnLow = s.rstnLow := rfl
@[simp] theorem State.stopSequencer_frameIn (s : State) : (s.stopSequencer).frameIn = s.frameIn := rfl
@[simp] theorem State.stopSequencer_store (s : State) : (s.stopSequencer).store = s.store := rfl
@[simp] theorem State.stopSequencer_profile (s : State) : (s.stopSequencer).profile = s.profile := rfl
@[simp] theorem State.stopSequencer_digest (s : State) : (s.stopSequencer).digest = s.digest := rfl
@[simp] theorem State.stopSequencer_timebase (s : State) : (s.stopSequencer).timebase = s.timebase := rfl
@[simp] theorem State.stopSequencer_port (s : State) : (s.stopSequencer).port = s.port := rfl
@[simp] theorem State.stopSequencer_membership (s : State) : (s.stopSequencer).membership = s.membership := rfl
@[simp] theorem State.stopSequencer_barrier (s : State) : (s.stopSequencer).barrier = s.barrier := rfl
@[simp] theorem State.stopSequencer_transceiver (s : State) : (s.stopSequencer).transceiver = s.transceiver := rfl
@[simp] theorem State.stopSequencer_roster (s : State) : (s.stopSequencer).roster = s.roster := rfl
@[simp] theorem State.stopSequencer_resolver (s : State) : (s.stopSequencer).resolver = s.resolver := rfl
@[simp] theorem State.stopSequencer_table (s : State) : (s.stopSequencer).table = s.table := rfl
@[simp] theorem State.stopSequencer_verifier (s : State) : (s.stopSequencer).verifier = s.verifier := rfl
@[simp] theorem State.stopSequencer_cursor (s : State) : (s.stopSequencer).cursor = s.cursor := rfl
@[simp] theorem State.stopSequencer_epochs (s : State) : (s.stopSequencer).epochs = s.epochs := rfl
@[simp] theorem State.stopSequencer_generators (s : State) : (s.stopSequencer).generators = s.generators := rfl
@[simp] theorem State.stopSequencer_log (s : State) : (s.stopSequencer).log = s.log := rfl

/-! ### releaseLine -/

@[simp] theorem State.releaseLine_pending (s : State) : (s.releaseLine).pending = s.pending := rfl
@[simp] theorem State.releaseLine_now (s : State) : (s.releaseLine).now = s.now := rfl
@[simp] theorem State.releaseLine_choices (s : State) : (s.releaseLine).choices = s.choices := rfl
@[simp] theorem State.releaseLine_rstnLow (s : State) : (s.releaseLine).rstnLow = s.rstnLow := rfl
@[simp] theorem State.releaseLine_frameIn (s : State) : (s.releaseLine).frameIn = s.frameIn := rfl
@[simp] theorem State.releaseLine_store (s : State) : (s.releaseLine).store = s.store := rfl
@[simp] theorem State.releaseLine_profile (s : State) : (s.releaseLine).profile = s.profile := rfl
@[simp] theorem State.releaseLine_digest (s : State) : (s.releaseLine).digest = s.digest := rfl
@[simp] theorem State.releaseLine_timebase (s : State) : (s.releaseLine).timebase = s.timebase := rfl
@[simp] theorem State.releaseLine_port (s : State) : (s.releaseLine).port = s.port := rfl
@[simp] theorem State.releaseLine_membership (s : State) : (s.releaseLine).membership = s.membership := rfl
@[simp] theorem State.releaseLine_transceiver (s : State) : (s.releaseLine).transceiver = s.transceiver := rfl
@[simp] theorem State.releaseLine_roster (s : State) : (s.releaseLine).roster = s.roster := rfl
@[simp] theorem State.releaseLine_resolver (s : State) : (s.releaseLine).resolver = s.resolver := rfl
@[simp] theorem State.releaseLine_table (s : State) : (s.releaseLine).table = s.table := rfl
@[simp] theorem State.releaseLine_verifier (s : State) : (s.releaseLine).verifier = s.verifier := rfl
@[simp] theorem State.releaseLine_cursor (s : State) : (s.releaseLine).cursor = s.cursor := rfl
@[simp] theorem State.releaseLine_epochs (s : State) : (s.releaseLine).epochs = s.epochs := rfl
@[simp] theorem State.releaseLine_sequencer (s : State) : (s.releaseLine).sequencer = s.sequencer := rfl
@[simp] theorem State.releaseLine_generators (s : State) : (s.releaseLine).generators = s.generators := rfl
@[simp] theorem State.releaseLine_log (s : State) : (s.releaseLine).log = s.log := rfl

/-! ### judgeMarker -/

@[simp] theorem State.judgeMarker_pending (s : State) : (s.judgeMarker).pending = s.pending := rfl
@[simp] theorem State.judgeMarker_now (s : State) : (s.judgeMarker).now = s.now := rfl
@[simp] theorem State.judgeMarker_choices (s : State) : (s.judgeMarker).choices = s.choices := rfl
@[simp] theorem State.judgeMarker_rstnLow (s : State) : (s.judgeMarker).rstnLow = s.rstnLow := rfl
@[simp] theorem State.judgeMarker_frameIn (s : State) : (s.judgeMarker).frameIn = s.frameIn := rfl
@[simp] theorem State.judgeMarker_store (s : State) : (s.judgeMarker).store = s.store := rfl
@[simp] theorem State.judgeMarker_profile (s : State) : (s.judgeMarker).profile = s.profile := rfl
@[simp] theorem State.judgeMarker_digest (s : State) : (s.judgeMarker).digest = s.digest := rfl
@[simp] theorem State.judgeMarker_timebase (s : State) : (s.judgeMarker).timebase = s.timebase := rfl
@[simp] theorem State.judgeMarker_port (s : State) : (s.judgeMarker).port = s.port := rfl
@[simp] theorem State.judgeMarker_barrier (s : State) : (s.judgeMarker).barrier = s.barrier := rfl
@[simp] theorem State.judgeMarker_transceiver (s : State) : (s.judgeMarker).transceiver = s.transceiver := rfl
@[simp] theorem State.judgeMarker_roster (s : State) : (s.judgeMarker).roster = s.roster := rfl
@[simp] theorem State.judgeMarker_resolver (s : State) : (s.judgeMarker).resolver = s.resolver := rfl
@[simp] theorem State.judgeMarker_table (s : State) : (s.judgeMarker).table = s.table := rfl
@[simp] theorem State.judgeMarker_verifier (s : State) : (s.judgeMarker).verifier = s.verifier := rfl
@[simp] theorem State.judgeMarker_cursor (s : State) : (s.judgeMarker).cursor = s.cursor := rfl
@[simp] theorem State.judgeMarker_epochs (s : State) : (s.judgeMarker).epochs = s.epochs := rfl
@[simp] theorem State.judgeMarker_sequencer (s : State) : (s.judgeMarker).sequencer = s.sequencer := rfl
@[simp] theorem State.judgeMarker_generators (s : State) : (s.judgeMarker).generators = s.generators := rfl
@[simp] theorem State.judgeMarker_log (s : State) : (s.judgeMarker).log = s.log := rfl

/-! ### setLookahead -/

@[simp] theorem State.setLookahead_pending (content : Content) (s : State) : (s.setLookahead content).pending = s.pending := rfl
@[simp] theorem State.setLookahead_now (content : Content) (s : State) : (s.setLookahead content).now = s.now := rfl
@[simp] theorem State.setLookahead_choices (content : Content) (s : State) : (s.setLookahead content).choices = s.choices := rfl
@[simp] theorem State.setLookahead_rstnLow (content : Content) (s : State) : (s.setLookahead content).rstnLow = s.rstnLow := rfl
@[simp] theorem State.setLookahead_frameIn (content : Content) (s : State) : (s.setLookahead content).frameIn = s.frameIn := rfl
@[simp] theorem State.setLookahead_store (content : Content) (s : State) : (s.setLookahead content).store = s.store := rfl
@[simp] theorem State.setLookahead_profile (content : Content) (s : State) : (s.setLookahead content).profile = s.profile := rfl
@[simp] theorem State.setLookahead_digest (content : Content) (s : State) : (s.setLookahead content).digest = s.digest := rfl
@[simp] theorem State.setLookahead_timebase (content : Content) (s : State) : (s.setLookahead content).timebase = s.timebase := rfl
@[simp] theorem State.setLookahead_port (content : Content) (s : State) : (s.setLookahead content).port = s.port := rfl
@[simp] theorem State.setLookahead_barrier (content : Content) (s : State) : (s.setLookahead content).barrier = s.barrier := rfl
@[simp] theorem State.setLookahead_transceiver (content : Content) (s : State) : (s.setLookahead content).transceiver = s.transceiver := rfl
@[simp] theorem State.setLookahead_roster (content : Content) (s : State) : (s.setLookahead content).roster = s.roster := rfl
@[simp] theorem State.setLookahead_resolver (content : Content) (s : State) : (s.setLookahead content).resolver = s.resolver := rfl
@[simp] theorem State.setLookahead_table (content : Content) (s : State) : (s.setLookahead content).table = s.table := rfl
@[simp] theorem State.setLookahead_verifier (content : Content) (s : State) : (s.setLookahead content).verifier = s.verifier := rfl
@[simp] theorem State.setLookahead_epochs (content : Content) (s : State) : (s.setLookahead content).epochs = s.epochs := rfl
@[simp] theorem State.setLookahead_sequencer (content : Content) (s : State) : (s.setLookahead content).sequencer = s.sequencer := rfl
@[simp] theorem State.setLookahead_generators (content : Content) (s : State) : (s.setLookahead content).generators = s.generators := rfl
@[simp] theorem State.setLookahead_log (content : Content) (s : State) : (s.setLookahead content).log = s.log := rfl

/-! ### pendLeave -/

@[simp] theorem State.pendLeave_pending (mode : PendingLeave) (s : State) : (s.pendLeave mode).pending = s.pending := rfl
@[simp] theorem State.pendLeave_now (mode : PendingLeave) (s : State) : (s.pendLeave mode).now = s.now := rfl
@[simp] theorem State.pendLeave_choices (mode : PendingLeave) (s : State) : (s.pendLeave mode).choices = s.choices := rfl
@[simp] theorem State.pendLeave_rstnLow (mode : PendingLeave) (s : State) : (s.pendLeave mode).rstnLow = s.rstnLow := rfl
@[simp] theorem State.pendLeave_frameIn (mode : PendingLeave) (s : State) : (s.pendLeave mode).frameIn = s.frameIn := rfl
@[simp] theorem State.pendLeave_store (mode : PendingLeave) (s : State) : (s.pendLeave mode).store = s.store := rfl
@[simp] theorem State.pendLeave_profile (mode : PendingLeave) (s : State) : (s.pendLeave mode).profile = s.profile := rfl
@[simp] theorem State.pendLeave_digest (mode : PendingLeave) (s : State) : (s.pendLeave mode).digest = s.digest := rfl
@[simp] theorem State.pendLeave_timebase (mode : PendingLeave) (s : State) : (s.pendLeave mode).timebase = s.timebase := rfl
@[simp] theorem State.pendLeave_port (mode : PendingLeave) (s : State) : (s.pendLeave mode).port = s.port := rfl
@[simp] theorem State.pendLeave_barrier (mode : PendingLeave) (s : State) : (s.pendLeave mode).barrier = s.barrier := rfl
@[simp] theorem State.pendLeave_transceiver (mode : PendingLeave) (s : State) : (s.pendLeave mode).transceiver = s.transceiver := rfl
@[simp] theorem State.pendLeave_roster (mode : PendingLeave) (s : State) : (s.pendLeave mode).roster = s.roster := rfl
@[simp] theorem State.pendLeave_resolver (mode : PendingLeave) (s : State) : (s.pendLeave mode).resolver = s.resolver := rfl
@[simp] theorem State.pendLeave_table (mode : PendingLeave) (s : State) : (s.pendLeave mode).table = s.table := rfl
@[simp] theorem State.pendLeave_verifier (mode : PendingLeave) (s : State) : (s.pendLeave mode).verifier = s.verifier := rfl
@[simp] theorem State.pendLeave_cursor (mode : PendingLeave) (s : State) : (s.pendLeave mode).cursor = s.cursor := rfl
@[simp] theorem State.pendLeave_epochs (mode : PendingLeave) (s : State) : (s.pendLeave mode).epochs = s.epochs := rfl
@[simp] theorem State.pendLeave_sequencer (mode : PendingLeave) (s : State) : (s.pendLeave mode).sequencer = s.sequencer := rfl
@[simp] theorem State.pendLeave_generators (mode : PendingLeave) (s : State) : (s.pendLeave mode).generators = s.generators := rfl
@[simp] theorem State.pendLeave_log (mode : PendingLeave) (s : State) : (s.pendLeave mode).log = s.log := rfl

/-! ### becomeLeaving -/

@[simp] theorem State.becomeLeaving_pending (s : State) : (s.becomeLeaving).pending = s.pending := rfl
@[simp] theorem State.becomeLeaving_now (s : State) : (s.becomeLeaving).now = s.now := rfl
@[simp] theorem State.becomeLeaving_choices (s : State) : (s.becomeLeaving).choices = s.choices := rfl
@[simp] theorem State.becomeLeaving_rstnLow (s : State) : (s.becomeLeaving).rstnLow = s.rstnLow := rfl
@[simp] theorem State.becomeLeaving_frameIn (s : State) : (s.becomeLeaving).frameIn = s.frameIn := rfl
@[simp] theorem State.becomeLeaving_store (s : State) : (s.becomeLeaving).store = s.store := rfl
@[simp] theorem State.becomeLeaving_profile (s : State) : (s.becomeLeaving).profile = s.profile := rfl
@[simp] theorem State.becomeLeaving_digest (s : State) : (s.becomeLeaving).digest = s.digest := rfl
@[simp] theorem State.becomeLeaving_timebase (s : State) : (s.becomeLeaving).timebase = s.timebase := rfl
@[simp] theorem State.becomeLeaving_port (s : State) : (s.becomeLeaving).port = s.port := rfl
@[simp] theorem State.becomeLeaving_barrier (s : State) : (s.becomeLeaving).barrier = s.barrier := rfl
@[simp] theorem State.becomeLeaving_transceiver (s : State) : (s.becomeLeaving).transceiver = s.transceiver := rfl
@[simp] theorem State.becomeLeaving_roster (s : State) : (s.becomeLeaving).roster = s.roster := rfl
@[simp] theorem State.becomeLeaving_resolver (s : State) : (s.becomeLeaving).resolver = s.resolver := rfl
@[simp] theorem State.becomeLeaving_table (s : State) : (s.becomeLeaving).table = s.table := rfl
@[simp] theorem State.becomeLeaving_verifier (s : State) : (s.becomeLeaving).verifier = s.verifier := rfl
@[simp] theorem State.becomeLeaving_cursor (s : State) : (s.becomeLeaving).cursor = s.cursor := rfl
@[simp] theorem State.becomeLeaving_sequencer (s : State) : (s.becomeLeaving).sequencer = s.sequencer := rfl
@[simp] theorem State.becomeLeaving_generators (s : State) : (s.becomeLeaving).generators = s.generators := rfl
@[simp] theorem State.becomeLeaving_log (s : State) : (s.becomeLeaving).log = s.log := rfl

/-! ### stayOn -/

@[simp] theorem State.stayOn_pending (s : State) : (s.stayOn).pending = s.pending := rfl
@[simp] theorem State.stayOn_now (s : State) : (s.stayOn).now = s.now := rfl
@[simp] theorem State.stayOn_choices (s : State) : (s.stayOn).choices = s.choices := rfl
@[simp] theorem State.stayOn_rstnLow (s : State) : (s.stayOn).rstnLow = s.rstnLow := rfl
@[simp] theorem State.stayOn_frameIn (s : State) : (s.stayOn).frameIn = s.frameIn := rfl
@[simp] theorem State.stayOn_store (s : State) : (s.stayOn).store = s.store := rfl
@[simp] theorem State.stayOn_profile (s : State) : (s.stayOn).profile = s.profile := rfl
@[simp] theorem State.stayOn_digest (s : State) : (s.stayOn).digest = s.digest := rfl
@[simp] theorem State.stayOn_timebase (s : State) : (s.stayOn).timebase = s.timebase := rfl
@[simp] theorem State.stayOn_port (s : State) : (s.stayOn).port = s.port := rfl
@[simp] theorem State.stayOn_barrier (s : State) : (s.stayOn).barrier = s.barrier := rfl
@[simp] theorem State.stayOn_transceiver (s : State) : (s.stayOn).transceiver = s.transceiver := rfl
@[simp] theorem State.stayOn_roster (s : State) : (s.stayOn).roster = s.roster := rfl
@[simp] theorem State.stayOn_resolver (s : State) : (s.stayOn).resolver = s.resolver := rfl
@[simp] theorem State.stayOn_table (s : State) : (s.stayOn).table = s.table := rfl
@[simp] theorem State.stayOn_verifier (s : State) : (s.stayOn).verifier = s.verifier := rfl
@[simp] theorem State.stayOn_cursor (s : State) : (s.stayOn).cursor = s.cursor := rfl
@[simp] theorem State.stayOn_epochs (s : State) : (s.stayOn).epochs = s.epochs := rfl
@[simp] theorem State.stayOn_sequencer (s : State) : (s.stayOn).sequencer = s.sequencer := rfl
@[simp] theorem State.stayOn_generators (s : State) : (s.stayOn).generators = s.generators := rfl
@[simp] theorem State.stayOn_log (s : State) : (s.stayOn).log = s.log := rfl

/-! ### startSegment -/

@[simp] theorem State.startSegment_pending (start : Fin 64) (s : State) : (s.startSegment start).pending = s.pending := rfl
@[simp] theorem State.startSegment_now (start : Fin 64) (s : State) : (s.startSegment start).now = s.now := rfl
@[simp] theorem State.startSegment_choices (start : Fin 64) (s : State) : (s.startSegment start).choices = s.choices := rfl
@[simp] theorem State.startSegment_rstnLow (start : Fin 64) (s : State) : (s.startSegment start).rstnLow = s.rstnLow := rfl
@[simp] theorem State.startSegment_frameIn (start : Fin 64) (s : State) : (s.startSegment start).frameIn = s.frameIn := rfl
@[simp] theorem State.startSegment_store (start : Fin 64) (s : State) : (s.startSegment start).store = s.store := rfl
@[simp] theorem State.startSegment_profile (start : Fin 64) (s : State) : (s.startSegment start).profile = s.profile := rfl
@[simp] theorem State.startSegment_digest (start : Fin 64) (s : State) : (s.startSegment start).digest = s.digest := rfl
@[simp] theorem State.startSegment_timebase (start : Fin 64) (s : State) : (s.startSegment start).timebase = s.timebase := rfl
@[simp] theorem State.startSegment_port (start : Fin 64) (s : State) : (s.startSegment start).port = s.port := rfl
@[simp] theorem State.startSegment_membership (start : Fin 64) (s : State) : (s.startSegment start).membership = s.membership := rfl
@[simp] theorem State.startSegment_barrier (start : Fin 64) (s : State) : (s.startSegment start).barrier = s.barrier := rfl
@[simp] theorem State.startSegment_transceiver (start : Fin 64) (s : State) : (s.startSegment start).transceiver = s.transceiver := rfl
@[simp] theorem State.startSegment_roster (start : Fin 64) (s : State) : (s.startSegment start).roster = s.roster := rfl
@[simp] theorem State.startSegment_resolver (start : Fin 64) (s : State) : (s.startSegment start).resolver = s.resolver := rfl
@[simp] theorem State.startSegment_table (start : Fin 64) (s : State) : (s.startSegment start).table = s.table := rfl
@[simp] theorem State.startSegment_verifier (start : Fin 64) (s : State) : (s.startSegment start).verifier = s.verifier := rfl
@[simp] theorem State.startSegment_epochs (start : Fin 64) (s : State) : (s.startSegment start).epochs = s.epochs := rfl
@[simp] theorem State.startSegment_sequencer (start : Fin 64) (s : State) : (s.startSegment start).sequencer = s.sequencer := rfl
@[simp] theorem State.startSegment_generators (start : Fin 64) (s : State) : (s.startSegment start).generators = s.generators := rfl
@[simp] theorem State.startSegment_log (start : Fin 64) (s : State) : (s.startSegment start).log = s.log := rfl

/-! ### transmit -/

@[simp] theorem State.transmit_pending (note : Note) (judged : Bool) (s : State) : (s.transmit note judged).pending = s.pending := rfl
@[simp] theorem State.transmit_now (note : Note) (judged : Bool) (s : State) : (s.transmit note judged).now = s.now := rfl
@[simp] theorem State.transmit_choices (note : Note) (judged : Bool) (s : State) : (s.transmit note judged).choices = s.choices := rfl
@[simp] theorem State.transmit_rstnLow (note : Note) (judged : Bool) (s : State) : (s.transmit note judged).rstnLow = s.rstnLow := rfl
@[simp] theorem State.transmit_frameIn (note : Note) (judged : Bool) (s : State) : (s.transmit note judged).frameIn = s.frameIn := rfl
@[simp] theorem State.transmit_store (note : Note) (judged : Bool) (s : State) : (s.transmit note judged).store = s.store := rfl
@[simp] theorem State.transmit_profile (note : Note) (judged : Bool) (s : State) : (s.transmit note judged).profile = s.profile := rfl
@[simp] theorem State.transmit_digest (note : Note) (judged : Bool) (s : State) : (s.transmit note judged).digest = s.digest := rfl
@[simp] theorem State.transmit_timebase (note : Note) (judged : Bool) (s : State) : (s.transmit note judged).timebase = s.timebase := rfl
@[simp] theorem State.transmit_port (note : Note) (judged : Bool) (s : State) : (s.transmit note judged).port = s.port := rfl
@[simp] theorem State.transmit_membership (note : Note) (judged : Bool) (s : State) : (s.transmit note judged).membership = s.membership := rfl
@[simp] theorem State.transmit_barrier (note : Note) (judged : Bool) (s : State) : (s.transmit note judged).barrier = s.barrier := rfl
@[simp] theorem State.transmit_roster (note : Note) (judged : Bool) (s : State) : (s.transmit note judged).roster = s.roster := rfl
@[simp] theorem State.transmit_resolver (note : Note) (judged : Bool) (s : State) : (s.transmit note judged).resolver = s.resolver := rfl
@[simp] theorem State.transmit_table (note : Note) (judged : Bool) (s : State) : (s.transmit note judged).table = s.table := rfl
@[simp] theorem State.transmit_verifier (note : Note) (judged : Bool) (s : State) : (s.transmit note judged).verifier = s.verifier := rfl
@[simp] theorem State.transmit_cursor (note : Note) (judged : Bool) (s : State) : (s.transmit note judged).cursor = s.cursor := rfl
@[simp] theorem State.transmit_epochs (note : Note) (judged : Bool) (s : State) : (s.transmit note judged).epochs = s.epochs := rfl
@[simp] theorem State.transmit_sequencer (note : Note) (judged : Bool) (s : State) : (s.transmit note judged).sequencer = s.sequencer := rfl
@[simp] theorem State.transmit_generators (note : Note) (judged : Bool) (s : State) : (s.transmit note judged).generators = s.generators := rfl
@[simp] theorem State.transmit_log (note : Note) (judged : Bool) (s : State) : (s.transmit note judged).log = s.log := rfl

/-! ### passOwnSlot -/

@[simp] theorem State.passOwnSlot_pending (s : State) : (s.passOwnSlot).pending = s.pending := rfl
@[simp] theorem State.passOwnSlot_now (s : State) : (s.passOwnSlot).now = s.now := rfl
@[simp] theorem State.passOwnSlot_choices (s : State) : (s.passOwnSlot).choices = s.choices := rfl
@[simp] theorem State.passOwnSlot_rstnLow (s : State) : (s.passOwnSlot).rstnLow = s.rstnLow := rfl
@[simp] theorem State.passOwnSlot_frameIn (s : State) : (s.passOwnSlot).frameIn = s.frameIn := rfl
@[simp] theorem State.passOwnSlot_store (s : State) : (s.passOwnSlot).store = s.store := rfl
@[simp] theorem State.passOwnSlot_profile (s : State) : (s.passOwnSlot).profile = s.profile := rfl
@[simp] theorem State.passOwnSlot_digest (s : State) : (s.passOwnSlot).digest = s.digest := rfl
@[simp] theorem State.passOwnSlot_timebase (s : State) : (s.passOwnSlot).timebase = s.timebase := rfl
@[simp] theorem State.passOwnSlot_port (s : State) : (s.passOwnSlot).port = s.port := rfl
@[simp] theorem State.passOwnSlot_membership (s : State) : (s.passOwnSlot).membership = s.membership := rfl
@[simp] theorem State.passOwnSlot_barrier (s : State) : (s.passOwnSlot).barrier = s.barrier := rfl
@[simp] theorem State.passOwnSlot_roster (s : State) : (s.passOwnSlot).roster = s.roster := rfl
@[simp] theorem State.passOwnSlot_resolver (s : State) : (s.passOwnSlot).resolver = s.resolver := rfl
@[simp] theorem State.passOwnSlot_table (s : State) : (s.passOwnSlot).table = s.table := rfl
@[simp] theorem State.passOwnSlot_verifier (s : State) : (s.passOwnSlot).verifier = s.verifier := rfl
@[simp] theorem State.passOwnSlot_cursor (s : State) : (s.passOwnSlot).cursor = s.cursor := rfl
@[simp] theorem State.passOwnSlot_epochs (s : State) : (s.passOwnSlot).epochs = s.epochs := rfl
@[simp] theorem State.passOwnSlot_sequencer (s : State) : (s.passOwnSlot).sequencer = s.sequencer := rfl
@[simp] theorem State.passOwnSlot_generators (s : State) : (s.passOwnSlot).generators = s.generators := rfl
@[simp] theorem State.passOwnSlot_log (s : State) : (s.passOwnSlot).log = s.log := rfl

/-! ### markWindow -/

@[simp] theorem State.markWindow_pending (s : State) : (s.markWindow).pending = s.pending := rfl
@[simp] theorem State.markWindow_now (s : State) : (s.markWindow).now = s.now := rfl
@[simp] theorem State.markWindow_choices (s : State) : (s.markWindow).choices = s.choices := rfl
@[simp] theorem State.markWindow_rstnLow (s : State) : (s.markWindow).rstnLow = s.rstnLow := rfl
@[simp] theorem State.markWindow_frameIn (s : State) : (s.markWindow).frameIn = s.frameIn := rfl
@[simp] theorem State.markWindow_store (s : State) : (s.markWindow).store = s.store := rfl
@[simp] theorem State.markWindow_profile (s : State) : (s.markWindow).profile = s.profile := rfl
@[simp] theorem State.markWindow_digest (s : State) : (s.markWindow).digest = s.digest := rfl
@[simp] theorem State.markWindow_timebase (s : State) : (s.markWindow).timebase = s.timebase := rfl
@[simp] theorem State.markWindow_port (s : State) : (s.markWindow).port = s.port := rfl
@[simp] theorem State.markWindow_membership (s : State) : (s.markWindow).membership = s.membership := rfl
@[simp] theorem State.markWindow_barrier (s : State) : (s.markWindow).barrier = s.barrier := rfl
@[simp] theorem State.markWindow_resolver (s : State) : (s.markWindow).resolver = s.resolver := rfl
@[simp] theorem State.markWindow_table (s : State) : (s.markWindow).table = s.table := rfl
@[simp] theorem State.markWindow_verifier (s : State) : (s.markWindow).verifier = s.verifier := rfl
@[simp] theorem State.markWindow_cursor (s : State) : (s.markWindow).cursor = s.cursor := rfl
@[simp] theorem State.markWindow_sequencer (s : State) : (s.markWindow).sequencer = s.sequencer := rfl
@[simp] theorem State.markWindow_generators (s : State) : (s.markWindow).generators = s.generators := rfl
@[simp] theorem State.markWindow_log (s : State) : (s.markWindow).log = s.log := rfl

/-! ### clearRig -/

@[simp] theorem State.clearRig_pending (target : StationState) (fault : Option FaultCause) (keep : Bool) (s : State) : (s.clearRig target fault keep).pending = s.pending := rfl
@[simp] theorem State.clearRig_now (target : StationState) (fault : Option FaultCause) (keep : Bool) (s : State) : (s.clearRig target fault keep).now = s.now := rfl
@[simp] theorem State.clearRig_choices (target : StationState) (fault : Option FaultCause) (keep : Bool) (s : State) : (s.clearRig target fault keep).choices = s.choices := rfl
@[simp] theorem State.clearRig_rstnLow (target : StationState) (fault : Option FaultCause) (keep : Bool) (s : State) : (s.clearRig target fault keep).rstnLow = s.rstnLow := rfl
@[simp] theorem State.clearRig_frameIn (target : StationState) (fault : Option FaultCause) (keep : Bool) (s : State) : (s.clearRig target fault keep).frameIn = s.frameIn := rfl
@[simp] theorem State.clearRig_store (target : StationState) (fault : Option FaultCause) (keep : Bool) (s : State) : (s.clearRig target fault keep).store = s.store := rfl
@[simp] theorem State.clearRig_profile (target : StationState) (fault : Option FaultCause) (keep : Bool) (s : State) : (s.clearRig target fault keep).profile = s.profile := rfl
@[simp] theorem State.clearRig_digest (target : StationState) (fault : Option FaultCause) (keep : Bool) (s : State) : (s.clearRig target fault keep).digest = s.digest := rfl
@[simp] theorem State.clearRig_timebase (target : StationState) (fault : Option FaultCause) (keep : Bool) (s : State) : (s.clearRig target fault keep).timebase = s.timebase := rfl
@[simp] theorem State.clearRig_port (target : StationState) (fault : Option FaultCause) (keep : Bool) (s : State) : (s.clearRig target fault keep).port = s.port := rfl
@[simp] theorem State.clearRig_table (target : StationState) (fault : Option FaultCause) (keep : Bool) (s : State) : (s.clearRig target fault keep).table = s.table := rfl
@[simp] theorem State.clearRig_verifier (target : StationState) (fault : Option FaultCause) (keep : Bool) (s : State) : (s.clearRig target fault keep).verifier = s.verifier := rfl
@[simp] theorem State.clearRig_log (target : StationState) (fault : Option FaultCause) (keep : Bool) (s : State) : (s.clearRig target fault keep).log = s.log := rfl

/-! ### What they do to the fields they change -/

@[simp] theorem State.replyWith_port (code : ResultCode) (data : List Byte) (s : State) :
    (s.replyWith code data).port =
      { s.port with result := some code, data := data, logTaken := .nothing, selected := true, oneFiller := false } := rfl

@[simp] theorem State.reply_port (code : ResultCode) (s : State) :
    (s.reply code).port =
      { s.port with result := some code, data := [], logTaken := .nothing, selected := true, oneFiller := false } := rfl

@[simp] theorem State.noReply_port (s : State) :
    s.noReply.port = { s.port.rise with result := none, data := [], logTaken := .nothing } := rfl

@[simp] theorem State.elapse_now (k : Nat) (s : State) : (s.elapse k).now = s.now + k := rfl

@[simp] theorem State.advanceTo_now (t : Nat) (s : State) : (s.advanceTo t).now = s.now + (t - s.now) := rfl

@[simp] theorem State.clearRig_membership (target : StationState) (fault : Option FaultCause) (keep : Bool) (s : State) :
    (s.clearRig target fault keep).membership = { state := target, fault } := rfl

@[simp] theorem State.clearRig_roster (target : StationState) (fault : Option FaultCause) (keep : Bool) (s : State) :
    (s.clearRig target fault keep).roster = {} := rfl

@[simp] theorem State.clearRig_resolver (target : StationState) (fault : Option FaultCause) (keep : Bool) (s : State) :
    (s.clearRig target fault keep).resolver = {} := rfl

@[simp] theorem State.clearRig_cursor (target : StationState) (fault : Option FaultCause) (keep : Bool) (s : State) :
    (s.clearRig target fault keep).cursor = {} := rfl

@[simp] theorem State.clearRig_epochs (target : StationState) (fault : Option FaultCause) (keep : Bool) (s : State) :
    (s.clearRig target fault keep).epochs = {} := rfl

@[simp] theorem State.clearRig_sequencer (target : StationState) (fault : Option FaultCause) (keep : Bool) (s : State) :
    (s.clearRig target fault keep).sequencer = {} := rfl

@[simp] theorem State.clearRig_generators (target : StationState) (fault : Option FaultCause) (keep : Bool) (s : State) :
    (s.clearRig target fault keep).generators = Vector.replicate 4 {} := rfl

@[simp] theorem State.becomeLeaving_state (s : State) : s.becomeLeaving.membership.state = .leaving := rfl

@[simp] theorem State.becomeLeaving_fault (s : State) : s.becomeLeaving.membership.fault = s.membership.fault := rfl

@[simp] theorem State.setLookahead_state (content : Content) (s : State) :
    (s.setLookahead content).membership.state = s.membership.state := rfl

@[simp] theorem State.setLookahead_lookahead (content : Content) (s : State) :
    (s.setLookahead content).cursor.lookahead = some content := rfl

@[simp] theorem State.pendLeave_state (mode : PendingLeave) (s : State) :
    (s.pendLeave mode).membership.state = s.membership.state := rfl

end Sys2Proof.Machine
end

