-- ==== Sys2Proof/Laws/Ops.lean ====
section
/-! SUPPORT. What the shared operations can do, each said once: the guards of events and commands, the clock, the log, the
merge, and the step. -/

namespace Sys2Proof.Machine

/-! ### Guards -/

theorem State.onTick_ticking {f : State → State} {s : State} (h : s.ticking = true) : s.onTick f = f s := by
  simp [State.onTick, h]

theorem State.onTick_still {f : State → State} {s : State} (h : s.ticking = false) : s.onTick f = s := by
  simp [State.onTick, h]

/-- What holds of a state and of every effect's result holds after the guarded event. -/
theorem State.onTick_elim {p : State → Prop} {f : State → State} {s : State} (h0 : p s) (h1 : p (f s)) : p (s.onTick f) := by
  unfold State.onTick; split <;> assumption

theorem State.ticking_iff (s : State) : s.ticking = true ↔ s.rstnLow = false ∧ s.timebase.lost = false := by
  simp [State.ticking]

theorem State.handOver_ticking {c : Instr} {f : State → State} {s : State} (h : s.ticking = true) :
    s.handOver c f = f s := by
  obtain ⟨h1, h2⟩ := (s.ticking_iff).1 h
  simp [State.handOver, h1, h2]

theorem State.handOver_reset {c : Instr} {f : State → State} {s : State} (h : s.rstnLow = true) : s.handOver c f = s := by
  simp [State.handOver, h]

theorem State.handOver_lost {c : Instr} {f : State → State} {s : State} (h : s.rstnLow = false)
    (h2 : s.timebase.lost = true) : s.handOver c f = { s with port := s.port.await c } := by
  simp [State.handOver, h, h2]

/-- What holds of a state, of its waiting form and of every action's result holds after the hand-over. -/
theorem State.handOver_elim {p : State → Prop} {c : Instr} {f : State → State} {s : State} (h0 : p s)
    (h1 : p { s with port := s.port.await c }) (h2 : p (f s)) : p (s.handOver c f) := by
  unfold State.handOver; split
  · exact h0
  · split
    · exact h1
    · exact h2

/-- A whole image is handed over like any command. -/
theorem State.handOverImage_whole {n : Nat} {image : List Byte} {c : Instr} {f : State → State} {s : State}
    (h : n ≤ image.length) : s.handOverImage n image c f = s.handOver c f := by
  simp [State.handOverImage, Nat.not_lt.2 h]

theorem State.endEarly_elim {p : State → Prop} {s : State} (h0 : p s) (h1 : p s.noReply) : p s.endEarly := by
  unfold State.endEarly; split <;> assumption

/-- What holds of a state, of its ended and waiting forms and of every action's result holds after an image's hand-over. -/
theorem State.handOverImage_elim {p : State → Prop} {n : Nat} {image : List Byte} {c : Instr} {f : State → State} {s : State}
    (h0 : p s) (hn : p s.noReply) (h1 : p { s with port := s.port.await c }) (h2 : p (f s)) :
    p (s.handOverImage n image c f) := by
  unfold State.handOverImage; split
  · exact State.endEarly_elim h0 hn
  · exact State.handOver_elim h0 h1 h2

/-! ### The clock -/

theorem Barrier.elapse_zero (l : Bool) (b : Barrier) : b.elapse l 0 = b := by simp [Barrier.elapse]

theorem State.elapse_zero {s : State} (h : s.timebase.settle ≤ Config.settleTicks) : s.elapse 0 = s := by
  simp only [State.elapse, Barrier.elapse_zero, Nat.add_zero, Nat.min_eq_right h]
  split <;> rfl

theorem State.advanceTo_past {s : State} {t : Nat} (ht : t ≤ s.now) (h : s.timebase.settle ≤ Config.settleTicks) :
    s.advanceTo t = s := by
  simp [State.advanceTo, Nat.sub_eq_zero_of_le ht, State.elapse_zero h]

/-- A low sample changes the history and nothing else. -/
theorem Barrier.sampleLow_frame (n : Nat) (b : Barrier) :
    b.sampleLow n = { b with lows := (b.sampleLow n).lows, highs := (b.sampleLow n).highs } := by
  unfold Barrier.sampleLow; repeat' split
  all_goals rfl

/-- A high sample without a mark changes the history and nothing else. -/
theorem Barrier.sampleHigh_frame (n : Nat) (b : Barrier) :
    b.sampleHigh n = { b with lows := (b.sampleHigh n).lows, highs := (b.sampleHigh n).highs } := by
  unfold Barrier.sampleHigh; repeat' split
  all_goals rfl

/-- Time changes the barrier unit's history and its marks of the tick, and nothing else of it. -/
theorem Barrier.elapse_frame (l : Bool) (k : Nat) (b : Barrier) :
    b.elapse l k =
      { b with
        lows := (b.elapse l k).lows, highs := (b.elapse l k).highs, sampled := (b.elapse l k).sampled
        marked := (b.elapse l k).marked } := by
  unfold Barrier.elapse; split
  · rfl
  · split
    · rw [Barrier.sampleHigh_frame]
    · rw [Barrier.sampleLow_frame]

/-- A tick that has passed is over: the next one's sample is still to come. -/
theorem Barrier.elapse_succ_sampled (l : Bool) (k : Nat) (b : Barrier) : (b.elapse l (k + 1)).sampled = false := by
  simp [Barrier.elapse]

@[simp] theorem Barrier.elapse_phase (l : Bool) (k : Nat) (b : Barrier) : (b.elapse l k).phase = b.phase := by
  rw [Barrier.elapse_frame]

@[simp] theorem Barrier.elapse_pulled (l : Bool) (k : Nat) (b : Barrier) : (b.elapse l k).pulled = b.pulled := by
  rw [Barrier.elapse_frame]

@[simp] theorem Barrier.elapse_pullDue (l : Bool) (k : Nat) (b : Barrier) : (b.elapse l k).pullDue = b.pullDue := by
  rw [Barrier.elapse_frame]

@[simp] theorem Barrier.elapse_frameNo (l : Bool) (k : Nat) (b : Barrier) : (b.elapse l k).frameNo = b.frameNo := by
  rw [Barrier.elapse_frame]

@[simp] theorem Barrier.elapse_runFrame (l : Bool) (k : Nat) (b : Barrier) : (b.elapse l k).runFrame = b.runFrame := by
  rw [Barrier.elapse_frame]

@[simp] theorem Barrier.elapse_runEpoch (l : Bool) (k : Nat) (b : Barrier) : (b.elapse l k).runEpoch = b.runEpoch := by
  rw [Barrier.elapse_frame]

@[simp] theorem Barrier.elapse_markTick (l : Bool) (k : Nat) (b : Barrier) : (b.elapse l k).markTick = b.markTick := by
  rw [Barrier.elapse_frame]

@[simp] theorem Barrier.elapse_holdStart (l : Bool) (k : Nat) (b : Barrier) : (b.elapse l k).holdStart = b.holdStart := by
  rw [Barrier.elapse_frame]

@[simp] theorem Barrier.elapse_stallStart (l : Bool) (k : Nat) (b : Barrier) : (b.elapse l k).stallStart = b.stallStart := by
  rw [Barrier.elapse_frame]

@[simp] theorem Barrier.elapse_pulseStart (l : Bool) (k : Nat) (b : Barrier) : (b.elapse l k).pulseStart = b.pulseStart := by
  rw [Barrier.elapse_frame]

@[simp] theorem Barrier.elapse_stallReported (l : Bool) (k : Nat) (b : Barrier) : (b.elapse l k).stallReported = b.stallReported := by
  rw [Barrier.elapse_frame]

@[simp] theorem Barrier.elapse_windowDone (l : Bool) (k : Nat) (b : Barrier) : (b.elapse l k).windowDone = b.windowDone := by
  rw [Barrier.elapse_frame]

@[simp] theorem Barrier.elapse_minTimeDone (l : Bool) (k : Nat) (b : Barrier) : (b.elapse l k).minTimeDone = b.minTimeDone := by
  rw [Barrier.elapse_frame]

@[simp] theorem Barrier.elapse_exposuresDone (l : Bool) (k : Nat) (b : Barrier) : (b.elapse l k).exposuresDone = b.exposuresDone := by
  rw [Barrier.elapse_frame]

@[simp] theorem Barrier.elapse_strobesDone (l : Bool) (k : Nat) (b : Barrier) : (b.elapse l k).strobesDone = b.strobesDone := by
  rw [Barrier.elapse_frame]

@[simp] theorem Barrier.elapse_minTimeDue (l : Bool) (k : Nat) (b : Barrier) : (b.elapse l k).minTimeDue = b.minTimeDue := by
  rw [Barrier.elapse_frame]

@[simp] theorem Barrier.elapse_late (l : Bool) (k : Nat) (b : Barrier) : (b.elapse l k).late = b.late := by
  rw [Barrier.elapse_frame]

@[simp] theorem State.advanceTo_barrier (t : Nat) (s : State) :
    (s.advanceTo t).barrier = s.barrier.elapse s.frameIn (t - s.now) := rfl

@[simp] theorem State.elapse_barrier (k : Nat) (s : State) : (s.elapse k).barrier = s.barrier.elapse s.frameIn k := rfl

/-- Time changes of the timebase the settle count alone. -/
theorem State.elapse_timebase_frame (k : Nat) (s : State) :
    (s.elapse k).timebase = { s.timebase with settle := (s.elapse k).timebase.settle } := by
  simp only [State.elapse]; split <;> rfl

@[simp] theorem State.elapse_lost (k : Nat) (s : State) : (s.elapse k).timebase.lost = s.timebase.lost := by
  rw [State.elapse_timebase_frame]

@[simp] theorem State.elapse_lock (k : Nat) (s : State) : (s.elapse k).timebase.lock = s.timebase.lock := by
  rw [State.elapse_timebase_frame]

@[simp] theorem State.elapse_ticking (k : Nat) (s : State) : (s.elapse k).ticking = s.ticking := by
  simp [State.ticking]

@[simp] theorem State.closeTick_ticking (s : State) : s.closeTick.ticking = s.ticking := rfl

/-- The last tick before a loss is over for the barrier unit alone. -/
theorem State.closeTick_eq (s : State) : s.closeTick = { s with barrier := (s.elapse 1).barrier } := rfl

/-- The first tick after a loss leaves the barrier unit as it is. -/
@[simp] theorem State.firstTick_barrier (s : State) : s.firstTick.barrier = s.barrier := rfl

@[simp] theorem State.firstTick_now (s : State) : s.firstTick.now = s.now + 1 := rfl

@[simp] theorem State.firstTick_timebase (s : State) : s.firstTick.timebase = (s.elapse 1).timebase := rfl

@[simp] theorem State.firstTick_ticking (s : State) : s.firstTick.ticking = s.ticking := State.elapse_ticking 1 s

/-! ### The log -/

/-- An append keeps the log within its bounds. -/
theorem StationLog.append_bounded {l : StationLog} (h : l.bounded = true) (r : Record) : (l.append r).bounded = true := by
  simp only [StationLog.bounded, Bool.and_eq_true, decide_eq_true_eq] at h ⊢
  unfold StationLog.append
  split
  · next hlt => exact ⟨by simp; omega, h.2⟩
  · refine ⟨?_, by simp⟩
    simp only [List.length_append, List.length_tail, List.length_cons, List.length_nil]
    have := h.1
    have : 0 < Config.logCapacity := by decide
    omega

theorem StationLog.foldl_append_bounded {l : StationLog} (h : l.bounded = true) (rs : List Record) :
    (rs.foldl StationLog.append l).bounded = true := by
  induction rs generalizing l with
  | nil => exact h
  | cons r rs ih => exact ih (StationLog.append_bounded h r)

theorem StationLog.addGap_bounded {l : StationLog} (h : l.bounded = true) (n : Nat) : (l.addGap n).bounded = true := by
  simp only [StationLog.bounded, Bool.and_eq_true, decide_eq_true_eq] at h ⊢
  exact ⟨h.1, by simp [StationLog.addGap]⟩

theorem StationLog.loseTaken_bounded {l : StationLog} (h : l.bounded = true) (taken : LogTaken) :
    (l.loseTaken taken).bounded = true := by
  cases taken
  · exact h
  · exact StationLog.addGap_bounded h 1
  · exact StationLog.addGap_bounded h _

theorem State.logChains_bounded {s : State} (h : s.log.bounded = true) (chains : List (List Record)) :
    (s.logChains chains).log.bounded = true := StationLog.foldl_append_bounded h _

@[simp] theorem mergeTwo_left {α : Type} (n k : Nat) (xs : List α) : mergeTwo n k xs [] = xs := by
  cases n <;> cases xs <;> simp [mergeTwo]

@[simp] theorem mergeTwo_right {α : Type} (n k : Nat) (ys : List α) : mergeTwo n k [] ys = ys := by
  cases n <;> simp [mergeTwo]

/-- A merge holds the items of both sequences and no others. -/
theorem mergeTwo_perm {α : Type} (n k : Nat) (xs ys : List α) : (mergeTwo n k xs ys).Perm (xs ++ ys) := by
  induction n generalizing k xs ys with
  | zero => exact List.Perm.refl _
  | succ n ih =>
    cases xs with
    | nil => simp
    | cons x xs =>
      cases ys with
      | nil => simp
      | cons y ys =>
        simp only [mergeTwo]
        split
        · exact (ih _ _ _).cons x
        · exact ((ih _ _ _).cons y).trans (by
            have := (List.perm_middle (a := y) (l₁ := x :: xs) (l₂ := ys)).symm
            simpa using this)

/-- The record that an item of a return is, if it is one. -/
def Returning.record? : Returning → Option Record
  | .record r => some r
  | .command _ _ => none

/-- The command that an item of a return is, if it is one. -/
def Returning.command? : Returning → Option (Instr × Bool)
  | .record _ => none
  | .command c cut => some (c, cut)

/-- What waited comes back whole, the records in their order and the commands in theirs. -/
theorem mergeReturning_keeps (n k : Nat) (rs : List Record) (ws : List (Instr × Bool)) :
    (mergeReturning n k rs ws).filterMap Returning.record? = rs ∧
      (mergeReturning n k rs ws).filterMap Returning.command? = ws := by
  fun_induction mergeReturning n k rs ws with
  | case1 fuel k r rs w ws h ih => simpa [List.filterMap_cons, Returning.record?, Returning.command?] using ih
  | case2 fuel k r rs w ws h ih => simpa [List.filterMap_cons, Returning.record?, Returning.command?] using ih
  | case3 n k rs ws h => simp [List.filterMap_map, Function.comp_def, Returning.record?, Returning.command?]

/-- After a RESTART no FRAME record of the same tick comes (R164). -/
theorem mergeReturning_frame_before_restart (n k : Nat) (rs : List Record) (ws : List (Instr × Bool))
    (h : rs.length + ws.length ≤ n) (before : List Returning) (cut : Bool) (rest : List Returning)
    (e : mergeReturning n k rs ws = before ++ .command .restart cut :: rest) (r : Record) (hr : .record r ∈ rest) :
    r.isFrame = false := by
  fun_induction mergeReturning n k rs ws generalizing before with
  | case1 fuel k r' rs w ws h' ih =>
    cases before with
    | nil => cases e
    | cons b before =>
      injection e with _ e
      exact ih (by simp at h ⊢; omega) before e
  | case2 fuel k r' rs w ws h' ih =>
    cases before with
    | nil =>
      injection e with e1 e2
      injection e1 with e1 _
      have keeps := (mergeReturning_keeps fuel (k + 1) (r' :: rs) ws).1
      have mem : r ∈ r' :: rs := by
        rw [← keeps, e2]
        exact List.mem_filterMap.2 ⟨_, hr, rfl⟩
      have none := h'
      simp only [awaitsRecords, e1, Bool.or_eq_true, not_or] at none
      have := none.2
      simp only [beq_self_eq_true, Bool.true_and, List.any_eq_true, not_exists, not_and] at this
      simpa using this r mem
    | cons b before =>
      injection e with _ e
      exact ih (by simp at h ⊢; omega) before e
  | case3 n k rs ws h' =>
    cases rs with
    | nil =>
      have : Returning.record r ∈ before ++ Returning.command .restart cut :: rest := by simp [hr]
      rw [← e] at this
      simp at this
    | cons r' rs =>
      cases ws with
      | nil =>
        have : Returning.command .restart cut ∈ before ++ Returning.command .restart cut :: rest := by simp
        rw [← e] at this
        simp at this
      | cons w ws =>
        cases n with
        | zero => simp at h
        | succ n => exact (h' _ _ _ _ _ rfl rfl rfl).elim

theorem mergeAll_perm {α : Type} (k : Nat) (cs : List (List α)) : (mergeAll k cs).Perm cs.flatten := by
  induction cs generalizing k with
  | nil => exact List.Perm.refl _
  | cons c cs ih =>
    simp only [mergeAll, List.flatten_cons]
    exact (mergeTwo_perm _ _ _ _).trans ((ih _).append_left c)

/-- A merge keeps each of its two sequences in its own order. -/
theorem mergeTwo_sublist {α : Type} (n k : Nat) (xs ys : List α) :
    xs.Sublist (mergeTwo n k xs ys) ∧ ys.Sublist (mergeTwo n k xs ys) := by
  fun_induction mergeTwo n k xs ys with
  | case1 k xs ys => exact ⟨List.sublist_append_left xs ys, List.sublist_append_right xs ys⟩
  | case2 | case3 => simp
  | case4 fuel k x xs y ys h ih => exact ⟨ih.1.cons_cons x, ih.2.cons x⟩
  | case5 fuel k x xs y ys h ih => exact ⟨ih.1.cons y, ih.2.cons_cons y⟩

/-- Merging chains keeps every chain in its own order (R164). -/
theorem mergeAll_sublist {α : Type} (k : Nat) {c : List α} {cs : List (List α)} (h : c ∈ cs) :
    c.Sublist (mergeAll k cs) := by
  induction cs generalizing k with
  | nil => cases h
  | cons d cs ih =>
    cases h with
    | head => exact (mergeTwo_sublist _ _ _ _).1
    | tail _ h => exact (ih _ h).trans (mergeTwo_sublist _ _ _ _).2

@[simp] theorem mergeAll_one {α : Type} (k : Nat) (c : List α) : mergeAll k [c] = c := by simp [mergeAll]

/-- With nothing to append the log and the choices stand. -/
@[simp] theorem State.logChains_nil (s : State) : s.logChains [] = s := rfl

/-- One chain is appended in its own order. -/
theorem State.logChains_one (chain : List Record) (s : State) :
    s.logChains [chain] =
      { s with log := chain.foldl StationLog.append s.log, choices := s.choices + chain.length } := by
  simp [State.logChains, mergeChoices]

/-! ### The step -/

theorem step_front (c : Instr) (rest : List Instr) (s : State) (h : s.pending = c :: rest) :
    step s = exec c { s with pending := rest } := by simp [step, h]

/-- What is due enters the queue, and nothing else of the state changes but the choices. -/
theorem State.enqueue_frame (events : List Instr) (s : State) :
    s.enqueue events = { s with pending := (s.enqueue events).pending, choices := (s.enqueue events).choices } := rfl

theorem State.enqueue_perm (events : List Instr) (s : State) :
    (s.enqueue events).pending.Perm (s.pending ++ events) := by
  have h : (events.map fun e => [e]).flatten = events := by induction events <;> simp_all
  simpa [State.enqueue, h] using (mergeAll_perm s.choices (events.map fun e => [e])).append_left s.pending

/-- What the block does on an empty queue, by cases. -/
theorem tick_cases (s : State) :
    (s.ticking = false ∧ tick s = s) ∨
    (s.ticking = true ∧ s.dueNow = [] ∧ tick s = s.elapse 1) ∨
    (s.ticking = true ∧ s.dueNow ≠ [] ∧ tick s = { s with choices := s.choices + 1 }.enqueue s.dueNow) := by
  unfold tick
  cases h : s.ticking
  · exact .inl ⟨rfl, by simp⟩
  · right
    cases hd : s.dueNow with
    | nil => exact .inl ⟨rfl, rfl, by simp⟩
    | cons e es => exact .inr ⟨rfl, by simp, by simp⟩

theorem step_empty {s : State} (h : s.pending = []) : step s = .next (tick s) := by simp [step, h]

end Sys2Proof.Machine
end

