-- ==== Sys2Proof/Laws/Blocks.lean ====
section
/-! SUPPORT. The roster's canonical form and the lawful generator: kept by every operation on them. -/

namespace Sys2Proof.Machine

/-! ### The roster -/

/-- The canonical form as a pairwise relation. -/
theorem ascending_iff (l : List Member) : ascending l = true ↔ l.Pairwise fun a b => a.index < b.index := by
  induction l with
  | nil => simp [ascending]
  | cons a l ih =>
    cases l with
    | nil => simp [ascending]
    | cons b l =>
      simp only [ascending, Bool.and_eq_true, decide_eq_true_eq, ih]
      constructor
      · rintro ⟨h, hp⟩
        refine List.pairwise_cons.2 ⟨?_, hp⟩
        intro c hc
        rcases List.mem_cons.1 hc with rfl | hc
        · exact h
        · exact lt_trans h ((List.pairwise_cons.1 hp).1 c hc)
      · intro hp
        have := List.pairwise_cons.1 hp
        exact ⟨this.1 b (by simp), this.2⟩

/-- What stands in a list after an entry is put into it. -/
theorem mem_putMember {m x : Member} {l : List Member} (h : x ∈ putMember m l) : x = m ∨ x ∈ l := by
  induction l with
  | nil => exact .inl (by simpa [putMember] using h)
  | cons y l ih =>
    simp only [putMember] at h
    split at h
    · simpa using h
    · split at h
      · rcases List.mem_cons.1 h with h | h
        · exact .inl h
        · exact .inr (by simp [h])
      · rcases List.mem_cons.1 h with h | h
        · exact .inr (by simp [h])
        · rcases ih h with h | h
          · exact .inl h
          · exact .inr (by simp [h])

/-- Putting an entry keeps the form. -/
theorem ascending_putMember {m : Member} {l : List Member} (h : ascending l = true) : ascending (putMember m l) = true := by
  rw [ascending_iff] at h ⊢
  induction l with
  | nil => simp [putMember]
  | cons y l ih =>
    have hc := List.pairwise_cons.1 h
    simp only [putMember]
    split
    · next hlt =>
      refine List.pairwise_cons.2 ⟨fun z hz => ?_, h⟩
      rcases List.mem_cons.1 hz with rfl | hz
      · exact hlt
      · exact lt_trans hlt (hc.1 z hz)
    · next hge =>
      split
      · next heq => exact List.pairwise_cons.2 ⟨fun z hz => heq ▸ hc.1 z hz, hc.2⟩
      · next hne =>
        refine List.pairwise_cons.2 ⟨fun z hz => ?_, ih hc.2⟩
        rcases mem_putMember hz with rfl | hz
        · exact lt_of_le_of_ne (not_lt.1 hge) (Ne.symm hne)
        · exact hc.1 z hz

theorem ascending_filter {p : Member → Bool} {l : List Member} (h : ascending l = true) :
    ascending (l.filter p) = true := by
  rw [ascending_iff] at h ⊢; exact h.filter _

theorem ascending_map {f : Member → Member} (hf : ∀ m, (f m).index = m.index) {l : List Member} (h : ascending l = true) :
    ascending (l.map f) = true := by
  rw [ascending_iff] at h ⊢
  exact List.pairwise_map.2 (h.imp fun hab => by simpa [hf] using hab)

theorem Roster.atMark_ascending {r : Roster} (h : ascending r.members = true) : ascending r.atMark.members = true := by
  simp only [Roster.atMark]
  refine ascending_map (fun m => ?_) (ascending_filter h)
  rfl

theorem Member.atWindowEnd_index (limit : Nat) (frame : FrameNo) (epoch : EpochNo) (heard : Bool) (m : Member) :
    (m.atWindowEnd limit frame epoch heard).index = m.index := by
  have hc : (m.count limit heard).index = m.index := by unfold Member.count; split <;> rfl
  unfold Member.atWindowEnd
  simp only
  split
  · exact hc
  · split <;> exact hc

theorem State.rosterAtEnd_ascending {s : State} (h : ascending s.roster.members = true) (view : Bool) :
    ascending (s.rosterAtEnd view).members = true := by
  simp only [State.rosterAtEnd]
  exact ascending_map (fun m => Member.atWindowEnd_index _ _ _ _ m) h

theorem State.hearNote_ascending {s : State} (h : ascending s.roster.members = true) (slipped : Bool) (n : Note) :
    ascending (s.hearNote slipped n).roster.members = true := by
  unfold State.hearNote
  split <;> exact ascending_putMember h

/-! ### Generators -/

/-- A generator's lawfulness depends on its record and decision, and for a denied one or an empty one on its phase. -/
theorem Generator.lawful_of_same {inUse : LaneSet} {g h : Generator} (hr : h.record = g.record)
    (hd : h.decision = g.decision) (hp : g.settled = true → h.settled = true) (hdone : g.phase = .done → h.phase = .done)
    (hl : g.lawful inUse = true) : h.lawful inUse = true := by
  unfold Generator.lawful at hl ⊢
  rw [hr, hd]
  cases hgr : g.record with
  | none => simp only [hgr] at hl ⊢; exact hp hl
  | some r =>
    cases hgd : g.decision with
    | none => simp [hgr, hgd] at hl
    | some d =>
      cases d with
      | granted => simpa [hgr, hgd] using hl
      | unarbitrated => simpa [hgr, hgd] using hl
      | denied reason =>
        simp only [hgr, hgd, beq_iff_eq] at hl ⊢
        exact hdone hl

theorem Generator.cutNow_lawful {inUse : LaneSet} {g : Generator} (h : g.lawful inUse = true) :
    g.cutNow.lawful inUse = true := by
  unfold Generator.cutNow
  split
  · exact h
  · next hn =>
    refine Generator.lawful_of_same (g := g) rfl rfl (fun hs => absurd hs hn) (fun hd => ?_) h
    exact absurd (by simp [Generator.settled, hd]) hn

theorem Generator.leaveCut_lawful {inUse : LaneSet} {g : Generator} (h : g.lawful inUse = true) :
    g.leaveCut.lawful inUse = true := by
  unfold Generator.leaveCut
  split
  · exact h
  all_goals exact Generator.cutNow_lawful h

/-- A generator in WAIT, DELAY, ON or OFF may change phase: it is not a denied one. -/
theorem Generator.lawful_of_active {inUse : LaneSet} {g h : Generator} (hr : h.record = g.record)
    (hd : h.decision = g.decision) (hn : g.settled = false) (hl : g.lawful inUse = true) : h.lawful inUse = true :=
  Generator.lawful_of_same hr hd (fun hs => by rw [hn] at hs; cases hs)
    (fun hp => by simp [Generator.settled, hp] at hn) hl

theorem Generator.takeReference_lawful {inUse : LaneSet} {g : Generator} (t : Nat) (h : g.lawful inUse = true) :
    (g.takeReference t).lawful inUse = true := by
  unfold Generator.takeReference
  split
  · exact h
  · split
    · exact h
    · next hw =>
      have hw : g.phase = .wait := by simpa using hw
      have hn : g.settled = false := by simp [Generator.settled, hw]
      split
      · exact Generator.lawful_of_active (g := g) rfl rfl hn h
      · exact Generator.lawful_of_active (g := g) rfl rfl hn h

/-- A generator loaded at a mark is lawful when a granted lane is in use and an unarbitrated record names no lane. -/
theorem Generator.load_lawful {inUse : LaneSet} (t : Nat) (dark : Bool) (r : StrobeRecord) (d : Decision)
    (hg : d = .granted → ∃ lane, r.lane = some lane ∧ inUse.getLsbD lane.val = true)
    (hu : d = .unarbitrated → r.lane = none) : (Generator.load t dark r d).lawful inUse = true := by
  cases d with
  | denied reason => simp [Generator.load, Generator.lawful]
  | granted =>
    obtain ⟨lane, hl, hb⟩ := hg rfl
    have base : ({ record := some r, decision := some .granted, phase := .wait, pulsesLeft := r.pulses } : Generator).lawful
        inUse = true := by simp [Generator.lawful, hl, hb]
    unfold Generator.load
    simp only
    split
    · exact Generator.takeReference_lawful t base
    all_goals
      split
      · exact Generator.lawful_of_active (g := { record := some r, decision := some .granted, phase := .wait, pulsesLeft := r.pulses }) rfl rfl rfl base
      · exact base
  | unarbitrated =>
    have hl := hu rfl
    have base : ({ record := some r, decision := some .unarbitrated, phase := .wait, pulsesLeft := r.pulses } : Generator).lawful
        inUse = true := by simp [Generator.lawful, hl]
    unfold Generator.load
    simp only
    split
    · exact Generator.takeReference_lawful t base
    all_goals
      split
      · exact Generator.lawful_of_active (g := { record := some r, decision := some .unarbitrated, phase := .wait, pulsesLeft := r.pulses }) rfl rfl rfl base
      · exact base

end Sys2Proof.Machine
end

