-- ==== Sys2Proof/Laws/Cursor.lean ====
section
/-! SUPPORT. What the plan cursor's operations can change: the cursor itself, and the pending leave mode that a DEPART entry
sets. -/

namespace Sys2Proof.Machine

/-- Two states that differ at most in what running the cursor may change: the pending leave mode, and of the cursor its
entry, repetitions, passes, parked flag and last-repetition flag. -/
structure RunsCursor (s t : State) : Prop where
  frame :
    t =
      { s with
        membership := { s.membership with pendingLeave := t.membership.pendingLeave }
        cursor := t.cursor }
  segment : t.cursor.segment = s.cursor.segment
  current : t.cursor.current = s.cursor.current
  headSent : t.cursor.headSent = s.cursor.headSent
  lookahead : t.cursor.lookahead = s.cursor.lookahead

theorem RunsCursor.refl (s : State) : RunsCursor s s := ⟨rfl, rfl, rfl, rfl, rfl⟩

theorem RunsCursor.trans {a b c : State} (h : RunsCursor a b) (k : RunsCursor b c) : RunsCursor a c := by
  refine ⟨?_, k.segment.trans h.segment, k.current.trans h.current, k.headSent.trans h.headSent,
    k.lookahead.trans h.lookahead⟩
  rw [k.frame, h.frame]

theorem State.reachEntry_runs (s : State) : RunsCursor s s.reachEntry := by
  unfold State.reachEntry; split
  · split
    · exact ⟨rfl, rfl, rfl, rfl, rfl⟩
    · exact .refl s
  all_goals exact .refl s

/-- Reaching an entry after a move of the cursor. -/
theorem RunsCursor.reach {s u : State} (h : RunsCursor s u) : RunsCursor s u.reachEntry := h.trans (State.reachEntry_runs u)

theorem State.moveOn_runs (link : Link) (s : State) : RunsCursor s (s.moveOn link) := by
  unfold State.moveOn
  cases link with
  | next e => exact RunsCursor.reach ⟨rfl, rfl, rfl, rfl, rfl⟩
  | park => exact ⟨rfl, rfl, rfl, rfl, rfl⟩
  | depart => exact ⟨rfl, rfl, rfl, rfl, rfl⟩
  | repeats n =>
    simp only
    split
    · exact RunsCursor.reach ⟨rfl, rfl, rfl, rfl, rfl⟩
    · exact RunsCursor.reach ⟨rfl, rfl, rfl, rfl, rfl⟩
    all_goals exact ⟨rfl, rfl, rfl, rfl, rfl⟩

theorem State.consume_runs (s : State) : RunsCursor s s.consume := by
  unfold State.consume
  simp only
  split
  · exact .refl s
  · split
    · refine RunsCursor.trans ?_ (State.moveOn_runs _ _)
      exact ⟨rfl, rfl, rfl, rfl, rfl⟩
    · exact ⟨rfl, rfl, rfl, rfl, rfl⟩

/-- The cursor with a content made current, before an APPLY consumes its repetition. -/
def State.withCurrent (content : Content) (s : State) : State :=
  { s with
    cursor :=
      { s.cursor with
        current := some content
        headSent := ((s.headPlan content).map fun p => some p.headMode).getD s.cursor.headSent
        lastRepetition := false } }

/-- Making a content current sets it and the head mode last sent; an APPLY then runs the cursor. -/
theorem State.makeCurrent_runs (content : Content) (s : State) :
    RunsCursor (s.withCurrent content) (s.makeCurrent content) := by
  have h : s.withCurrent content =
      { s with
        cursor :=
          { s.cursor with
            current := some content
            headSent := match s.headPlan content with
              | some p => some p.headMode
              | none => s.cursor.headSent
            lastRepetition := false } } := by
    unfold State.withCurrent
    cases s.headPlan content <;> rfl
  rw [h]
  unfold State.makeCurrent
  cases content <;> simp only
  case apply => exact State.consume_runs _
  all_goals exact .refl _

/-- A content that is not an APPLY leaves the cursor's position as it is. -/
theorem State.makeCurrent_of_not_apply {content : Content} (h : ∀ e, content ≠ .apply e) (s : State) :
    s.makeCurrent content = s.withCurrent content := by
  unfold State.makeCurrent State.withCurrent
  cases content with
  | apply e => exact absurd rfl (h e)
  | _ => cases hp : s.headPlan _ <;> rfl

end Sys2Proof.Machine
end

