-- ==== Sys2Proof/Laws/Frame.lean ====
section
/-! SUPPORT. How a frame and a stay in the rig end: what entry to STANDBY, entry to DETACHED and the release leave. -/

namespace Sys2Proof.Machine

/-- Entry to STANDBY is the clearing of the rig with records appended. -/
theorem State.enterStandby_eq (frame : Option Bool) (chains : List (List Record)) (s : State) :
    ∃ more, s.enterStandby frame chains = (s.clearRig .standby none true).logChains more := ⟨_, rfl⟩

/-- A fault in a rig state is the clearing of the rig with records appended; elsewhere only records are. -/
theorem State.detach_eq (cause : FaultCause) (chains : List (List Record)) (s : State) :
    (s.membership.state.inRig = true ∧
      s.detach cause chains =
        (s.clearRig .detached (some cause) false).logChains (chains ++ [s.detachRecords cause])) ∨
    (s.membership.state.inRig = false ∧ s.detach cause chains = s.logChains chains) := by
  unfold State.detach
  cases h : s.membership.state.inRig
  · exact .inr ⟨rfl, by simp⟩
  · exact .inl ⟨rfl, by simp⟩

/-- Everything that `finish` can do: a release, an entry to STANDBY at the release of a leaving frame, or records alone. -/
theorem State.finish_cases (chains : List (List Record)) (s : State) :
    (s.barrier.phase = .holding ∧ s.barrier.allMet = true ∧ s.membership.state = .leaving ∧
      s.finish chains = s.enterStandby (some false) chains) ∨
    (s.barrier.phase = .holding ∧ s.barrier.allMet = true ∧ s.membership.state ≠ .leaving ∧
      s.finish chains = s.releaseLine.logChains chains) ∨
    ((s.barrier.phase ≠ .holding ∨ s.barrier.allMet = false) ∧ s.finish chains = s.logChains chains) := by
  unfold State.finish State.releaseFrame
  by_cases h : s.barrier.phase = .holding ∧ s.barrier.allMet = true
  · by_cases hl : s.membership.state = .leaving
    · exact .inl ⟨h.1, h.2, hl, by simp [h, hl]⟩
    · exact .inr (.inl ⟨h.1, h.2, hl, by simp [h, hl]⟩)
  · refine .inr (.inr ⟨?_, by simp [h]⟩)
    by_cases hp : s.barrier.phase = .holding
    · right; cases ha : s.barrier.allMet
      · rfl
      · exact absurd ⟨hp, ha⟩ h
    · exact .inl hp

/-- A drain goes on while a generator is ON, and ends in STANDBY. -/
theorem State.finishDrain_cases (s : State) :
    (anyOn s.generators = true ∧ s.finishDrain = s) ∨
    (anyOn s.generators = false ∧ s.finishDrain = s.enterStandby (some true) []) := by
  unfold State.finishDrain
  cases h : anyOn s.generators
  · exact .inr ⟨rfl, by simp⟩
  · exact .inl ⟨rfl, by simp⟩

/-- The bounds of the log survive every way a frame can end. -/
theorem State.enterStandby_bounded {s : State} (h : s.log.bounded = true) (frame : Option Bool)
    (chains : List (List Record)) : (s.enterStandby frame chains).log.bounded = true := State.logChains_bounded h _

theorem State.detach_bounded {s : State} (h : s.log.bounded = true) (cause : FaultCause) (chains : List (List Record)) :
    (s.detach cause chains).log.bounded = true := by
  unfold State.detach; split <;> exact State.logChains_bounded h _

theorem State.finish_bounded {s : State} (h : s.log.bounded = true) (chains : List (List Record)) :
    (s.finish chains).log.bounded = true := by
  unfold State.finish State.releaseFrame
  split
  · split
    · exact State.enterStandby_bounded h _ _
    · exact State.logChains_bounded h _
  · exact State.logChains_bounded h _

theorem State.finishDrain_bounded {s : State} (h : s.log.bounded = true) : s.finishDrain.log.bounded = true := by
  unfold State.finishDrain; split
  · exact h
  · exact State.enterStandby_bounded h _ _

/-- None of these touches the queue. -/
theorem State.enterStandby_pending (frame : Option Bool) (chains : List (List Record)) (s : State) :
    (s.enterStandby frame chains).pending = s.pending := rfl

theorem State.detach_pending (cause : FaultCause) (chains : List (List Record)) (s : State) :
    (s.detach cause chains).pending = s.pending := by unfold State.detach; split <;> rfl

theorem State.finish_pending (chains : List (List Record)) (s : State) : (s.finish chains).pending = s.pending := by
  unfold State.finish State.releaseFrame
  split
  · split <;> rfl
  · rfl

theorem State.finishDrain_pending (s : State) : s.finishDrain.pending = s.pending := by
  unfold State.finishDrain; split <;> rfl

end Sys2Proof.Machine
end

