-- ==== Sys2Proof/Laws/Slots.lean ====
section
/-! SUPPORT. Reading back what a named update wrote: vectors, a plan's records, the receipt list, the roster's entries, the
last record of the log, and the closed form of a lapse of time. -/

namespace Sys2Proof.Machine

/-! ### Vectors -/

theorem vector_get_set_same {α : Type} {n : Nat} (v : Vector α n) (i : Fin n) (x : α) :
    (v.set i.val x i.isLt).get i = x := by
  show (v.set i.val x i.isLt)[i.val] = x
  simp

theorem vector_get_set_other {α : Type} {n : Nat} (v : Vector α n) {i j : Fin n} (x : α) (h : j ≠ i) :
    (v.set i.val x i.isLt).get j = v.get j := by
  have hv : i.val ≠ j.val := fun he => h (Fin.ext he.symm)
  show (v.set i.val x i.isLt)[j.val] = v[j.val]
  exact Vector.getElem_set_ne _ _ hv

theorem vector_get_map {α β : Type} {n : Nat} (f : α → β) (v : Vector α n) (i : Fin n) :
    (v.map f).get i = f (v.get i) := by
  show (v.map f)[i.val] = f v[i.val]
  simp

theorem vector_get_replicate {α : Type} {n : Nat} (x : α) (i : Fin n) : (Vector.replicate n x).get i = x := by
  show (Vector.replicate n x)[i.val] = x
  simp

theorem vector_get_ofFn {α : Type} {n : Nat} (f : Fin n → α) (i : Fin n) : (Vector.ofFn f).get i = f i := by
  show (Vector.ofFn f)[i.val] = f i
  simp

theorem vector_all_iff {α : Type} {n : Nat} (v : Vector α n) (p : α → Bool) :
    v.toList.all p = true ↔ ∀ i, p (v.get i) = true := by
  simp only [List.all_eq_true]
  constructor
  · intro h i
    exact h _ (by simp [Vector.get])
  · intro h x hx
    obtain ⟨i, hi, rfl⟩ := List.getElem_of_mem hx
    simpa [Vector.get] using h ⟨i, by simpa using hi⟩

theorem vector_any_iff {α : Type} {n : Nat} (v : Vector α n) (p : α → Bool) :
    v.toList.any p = true ↔ ∃ i, p (v.get i) = true := by
  simp only [List.any_eq_true]
  constructor
  · rintro ⟨x, hx, h⟩
    obtain ⟨i, hi, rfl⟩ := List.getElem_of_mem hx
    exact ⟨⟨i, by simpa using hi⟩, by simpa [Vector.get] using h⟩
  · rintro ⟨i, h⟩
    exact ⟨v.get i, by simp [Vector.get], h⟩

/-- A generator is ON somewhere. -/
theorem anyOn_iff (gens : Vector Generator 4) : anyOn gens = true ↔ ∃ c, (gens.get c).phase = .on := by
  rw [anyOn, vector_any_iff]; simp [Generator.output]

/-- Every generator is DONE or CUT. -/
theorem allSettled_iff (gens : Vector Generator 4) : allSettled gens = true ↔ ∀ c, (gens.get c).settled = true := by
  rw [allSettled, vector_all_iff]

/-- Which generators LEAVE(IMMEDIATE) leaves in ON. -/
theorem Generator.leaveCut_on (g : Generator) :
    g.leaveCut.phase = .on ↔ g.phase = .on ∧ ∃ r, g.record = some r ∧ r.cutPolicy = .complete := by
  unfold Generator.leaveCut
  cases hr : g.record with
  | none => cases hp : g.phase <;> simp [Generator.cutNow, Generator.settled, hp]
  | some r =>
    cases hc : r.cutPolicy <;> cases hp : g.phase <;> simp [hc, hp, Generator.cutNow, Generator.settled]

/-- The records of a plan are those that stand in its strobe slots (R99). -/
theorem Plan.mem_records {p : Plan} {r : StrobeRecord} : r ∈ p.records ↔ ∃ k : Fin 4, p.slots.get k = some r := by
  simp only [Plan.records, List.mem_filterMap, id, Vector.mem_toList_iff, exists_eq_right, Vector.mem_iff_getElem]
  constructor
  · rintro ⟨i, h, e⟩; exact ⟨⟨i, h⟩, e⟩
  · rintro ⟨k, e⟩; exact ⟨k, k.2, e⟩

/-! ### The receipt list -/

theorem Transceiver.setOutcome_same (t : Transceiver) (slot : Fin 16) (o : SlotOutcome) :
    (t.setOutcome slot o).receipt.get slot = o := vector_get_set_same _ _ _

theorem Transceiver.setOutcome_other (t : Transceiver) {slot other : Fin 16} (o : SlotOutcome) (h : other ≠ slot) :
    (t.setOutcome slot o).receipt.get other = t.receipt.get other := vector_get_set_other _ _ h

/-- A PENDING slot takes its outcome. -/
theorem State.concludeSlot_same {slot : Fin 16} {o : SlotOutcome} {s : State} (h : s.outcomeOf slot = .pending) :
    (s.concludeSlot slot o).outcomeOf slot = o := by
  simp only [State.concludeSlot, h, if_true]
  exact Transceiver.setOutcome_same _ _ _

/-- No other slot changes. -/
theorem State.concludeSlot_other {slot other : Fin 16} (o : SlotOutcome) (s : State) (h : other ≠ slot) :
    (s.concludeSlot slot o).outcomeOf other = s.outcomeOf other := by
  unfold State.concludeSlot; split
  · exact Transceiver.setOutcome_other _ _ h
  · rfl

/-- Concluding a slot changes the receipt list and nothing else. -/
theorem State.concludeSlot_frame (slot : Fin 16) (o : SlotOutcome) (s : State) :
    s.concludeSlot slot o =
      { s with transceiver := { s.transceiver with receipt := (s.concludeSlot slot o).transceiver.receipt } } := by
  unfold State.concludeSlot; split <;> rfl

/-! ### The roster's entries -/

/-- What an index finds after an entry is put. -/
theorem find_putMember (m : Member) (l : List Member) (j : Fin 16) :
    (putMember m l).find? (fun x => x.index == j) =
      if j = m.index then some m else l.find? (fun x => x.index == j) := by
  induction l with
  | nil =>
    by_cases h : j = m.index
    · simp [putMember, h]
    · simp [putMember, h]; exact fun h2 => absurd h2.symm h
  | cons x l ih =>
    by_cases h : j = m.index
    · subst h
      simp only [putMember, if_true] at ih ⊢
      split
      · simp
      · split
        · simp
        · next hne =>
          have h3 : (x.index == m.index) = false := by simpa using fun he : x.index = m.index => hne he.symm
          simp [h3, ih]
    · have hm : (m.index == j) = false := by simpa using fun he : m.index = j => h he.symm
      simp only [putMember, h, if_false] at ih ⊢
      split
      · simp [List.find?_cons, hm]
      · split
        · next he =>
          have h3 : (x.index == j) = false := by rw [← he]; exact hm
          simp [hm, h3]
        · simp [List.find?_cons, ih]

/-! ### The log -/

theorem StationLog.append_last (l : StationLog) (r : Record) : (l.append r).queue.getLast? = some r := by
  unfold StationLog.append; split <;> simp

theorem StationLog.foldl_append_last (l : StationLog) (rs : List Record) (r : Record) :
    ((rs ++ [r]).foldl StationLog.append l).queue.getLast? = some r := by
  simp [List.foldl_append, StationLog.append_last]

/-! ### Time -/

/-- A lapse of time in closed form: the clock, the settle count and the mark history move, and nothing else. -/
theorem State.elapse_closed (k : Nat) (s : State) :
    ∃ settle lows highs sampled marked,
      s.elapse k =
        { s with
          now := s.now + k
          timebase := { s.timebase with settle }
          barrier := { s.barrier with lows, highs, sampled, marked } } := by
  refine ⟨(s.elapse k).timebase.settle, (s.barrier.elapse s.frameIn k).lows,
    (s.barrier.elapse s.frameIn k).highs, (s.barrier.elapse s.frameIn k).sampled,
    (s.barrier.elapse s.frameIn k).marked, ?_⟩
  rw [← State.elapse_timebase_frame, ← Barrier.elapse_frame]
  rfl

/-- The same up to a tick. -/
theorem State.advanceTo_closed (t : Nat) (s : State) :
    ∃ settle lows highs sampled marked,
      s.advanceTo t =
        { s with
          now := max s.now t
          timebase := { s.timebase with settle }
          barrier := { s.barrier with lows, highs, sampled, marked } } := by
  obtain ⟨settle, lows, highs, sampled, marked, h⟩ := s.elapse_closed (t - s.now)
  refine ⟨settle, lows, highs, sampled, marked, ?_⟩
  rw [State.advanceTo, h]
  have : s.now + (t - s.now) = max s.now t := by omega
  rw [this]

end Sys2Proof.Machine
end

