-- ==== Sys2Proof/Tests/Slice0.lean ====
section
/-! SUPPORT. The model's own tests: the well-formedness check, worked numbers of the manual, and for every statement with
hypotheses a state and operands that meet them, clause by clause (`witness_…`). -/

namespace Sys2Proof.Machine.Tests

set_option Elab.async false

/-! ## Well-formedness -/

theorem test_setProfile_of_another_length_is_ill_formed :
    (Instr.setProfile (List.replicate 13 0)).wellFormed = false ∧ (Instr.setProfile (List.replicate 14 0)).wellFormed = true := by
  decide
theorem test_writePlan_of_another_length_is_ill_formed :
    (Instr.writePlan 0 (List.replicate 73 0)).wellFormed = false ∧
      (Instr.writePlan 0 (List.replicate 72 0)).wellFormed = true := by decide
theorem test_unassignedCommand_of_an_assigned_byte_is_ill_formed :
    (Instr.unassignedCommand 0x22#8 0).wellFormed = false ∧ (Instr.unassignedCommand 0x31#8 2).wellFormed = false ∧
      (Instr.unassignedCommand 0x31#8 3).wellFormed = true ∧ (Instr.unassignedCommand 0x42#8 2).wellFormed = true ∧
      (Instr.unassignedCommand 0x54#8 0).wellFormed = true := by decide
theorem test_cut_beyond_the_longest_data_is_ill_formed :
    (Instr.transactionCutShort (.inData 74)).wellFormed = false ∧
      (Instr.transactionCutShort (.inData 73)).wellFormed = true := by decide
theorem test_reception_beyond_the_longest_note_is_ill_formed :
    (Instr.noteCompletion 0 { fall := 0, symbols := List.replicate 145 (true, false) }).wellFormed = false ∧
      (Instr.noteCompletion 0 { fall := 8, symbols := List.replicate 144 (true, false) }).wellFormed = true := by
  decide +kernel
theorem test_readback_beyond_the_longest_note_is_ill_formed :
    (Instr.ownNoteCompletion (List.replicate 145 (true, false))).wellFormed = false ∧
      (Instr.ownNoteCompletion (List.replicate 144 (true, false))).wellFormed = true := by decide +kernel
/-! ## Small states -/

/-- A strobe record on a lane. -/
def strobe (channel : Fin 4) (lane : Option (Fin 8)) (reference : Reference) (cutPolicy : CutPolicy) : StrobeRecord :=
  { channel, lane, priority := 1, reference, delay := 100, onTime := 50, offTime := 30, pulses := 2, cutPolicy }

/-- A plan of two exposures with a strobe record on lane 3 and an unarbitrated one. -/
def plan (link : Link) : Plan :=
  { exposureTime := 2000, exposureOffset := 300, burstCount := 2, burstGap := 400, minFrameTime := 1500, divisor := 1
    phase := 0, repeatCount := 2, headMode := 1, headCode := 0x25, dark := false
    slots := #v[some (strobe 0 (some 3) .firstExpose .complete), some (strobe 1 none .mark .truncate), none, none], link }

/-- A rig of four stations of 250 ticks a slot; this is station 1. -/
def profile : Profile :=
  { width := 4, slotTime := 250, holdLimit := 50, stallLimit := 200, missLimit := 3, index := 1, divider := 4
    policy := .all, attention := 0 }

/-- The image of that profile. -/
def profileImage : List Byte := [4, 0, 250, 0, 50, 0, 200, 3, 1, 4, 0, 0, 0, 0]

/-- A table whose entry 0 repeats for ever and whose entry 1 links to it. -/
def table : PlanTable :=
  ((Vector.replicate 64 none).set 0 (some (plan (.repeats 0)))).set 1 (some (plan (.next 0)))

/-- STANDBY, locked and verified. -/
def standby : State :=
  { State.reset with
    profile := some profile, digest := 0x1234, table, verifier := .pass
    timebase := { divider := 4, lock := .locked, settle := 2000 }
    membership := { state := .standby } }

/-- The same part in a rig state and barrier phase, its cursor at entry 0. -/
def inRig (state : StationState) (phase : Phase) : State :=
  { standby with
    membership := { state, joinSegment := some 0 }
    barrier :=
      { phase, pulled := phase.pulls, frameNo := 7, runFrame := 7, holdStart := some 0, stallStart := some 0
        pulseStart := some 0 }
    cursor :=
      { segment := some 0, entry := some 0, repeatsLeft := 1, headSent := some 1, current := some (.apply 0)
        lookahead := some (.apply 0) } }

/-- A window is open from tick 0 on. -/
def windowed (s : State) : State := { s with transceiver := { windowStart := some 0, windowOpen := true } }

/-- A slot of the open window has an outcome. -/
def hearing (slot : Fin 16) (o : SlotOutcome) (s : State) : State :=
  { s with transceiver := s.transceiver.setOutcome slot o }

/-- A generator in a phase that ends at tick 10. -/
def lit (phase : StrobePhase) (left : Nat) (cutPolicy : CutPolicy) : Generator :=
  { record := some (strobe 0 (some 3) .firstExpose cutPolicy), decision := some .granted, phase, pulsesLeft := left
    phaseEnd := some 10 }

/-- A note of station 2. -/
def note : Note :=
  { index := 2, kind := .status, sender := .active, ready := true, catchup := false, frame := 7, epoch := 0
    digest := 0x1234, claims := [{ lane := 3, priority := 1 }, { lane := 7, priority := 3 }] }

/-- A member entry of station 2. -/
def member : Member :=
  { index := 2, state := .active, epoch := 0, ready := false, catchup := false, lastHeard := some 6, misses := 2
    removal := .none, stamp := none, expected := true }

/-- An ACTIVE station in the phase given. -/
def active (phase : Phase) : State := inRig .active phase

/-- Two low samples of FRAME and one high one have gone into the history: a high one now is a mark. -/
def rising (s : State) : State := { s with barrier := { s.barrier with lows := 2, highs := 1 } }

/-- An ACTIVE station that takes a mark now. -/
def marking : State := rising (active .released)

/-- The state after some commands, one after the other. -/
def run (commands : List Instr) (s : State) : State :=
  commands.foldl
    (fun s c =>
      match exec c s with
      | .next t => t
      | .fault _ | .refused _ => s)
    s

/-- An ACTIVE station's barrier and sequencer in a frame. -/
def inFrame (b : Barrier → Barrier) (q : Sequencer) : State :=
  { active .holding with barrier := b (active .holding).barrier, sequencer := q }

/-! ## Worked numbers -/

/-- The check value of the CRC-16 of R174 over the digits 1 to 9. -/
theorem test_crc_check_value : crc16 [0x31, 0x32, 0x33, 0x34, 0x35, 0x36, 0x37, 0x38, 0x39] = 0x29B1#16 := by decide +kernel

/-- The example of section 9.6: a plan whose busy time is 7,700. -/
theorem test_busy_time_of_the_example :
    ({ plan .park with
        burstCount := 3
        slots := #v[none, none,
          some { strobe 2 (some 5) .lastExposeEnd .complete with onTime := 500, pulses := 1 }, none] } : Plan).busyTime =
      7700 := by decide +kernel

/-- An empty table is walked in 1,280 ticks (R114). -/
theorem test_walk_of_an_empty_table : walk (Vector.replicate 64 none) 50000 = (1280, .pass) := by decide +kernel

/-- The fourth and second walks of section 7.9: chains of two, one and one entries; then a link to an EMPTY entry. -/
theorem test_walks_of_the_example :
    let t (last : Link) : PlanTable :=
      (((Vector.replicate 64 none).set 2 (some (plan (.next 3)))).set 3 (some (plan (.repeats 0)))).set 5 (some (plan last))
    walk (t .park) 8000 = (1284, .pass) ∧ walk (t (.next 9)) 8000 = (1284, .fail 5 .linkEmpty) := by decide +kernel

/-- The note to R60: stations 2 and 9 tied in a rig of 16; station 9 wins for t from 3 to 9. -/
theorem test_tie_break_of_the_note :
    let tied : List (Fin 16 × Fin 4) := [(2, 1), (9, 1)]
    (List.range 16).filter (fun t => laneWinner 16 t tied == some (9, 1)) = [3, 4, 5, 6, 7, 8, 9] := by decide +kernel

/-- A note's bytes: start pattern, index and kind, state and flags, frame, epoch, digest, count, claims, CRC. -/
theorem test_note_bytes :
    note.body = [0x2D, 0x20, 0x62, 0, 0, 0, 7, 0, 0, 0x12, 0x34, 2, 0x0D, 0x1F] ∧ note.encode.length = 16 := by
  decide +kernel

/-- Bit 1 is high then low, bit 0 low then high (R21). -/
theorem test_symbols : symbolsOf [0x80#8] = (true, false) :: List.replicate 7 (false, true) := by decide +kernel

/-- The profile image is read and checked (R173). -/
theorem test_profile_image : Profile.decode profileImage = some profile := by decide +kernel

/-- A plan image keeps every field at its place (11.7). -/
theorem test_plan_image :
    ((plan (.repeats 5)).encode.take 36) =
      [1, 0, 0x07, 0xD0, 0, 0x01, 0x2C, 2, 0x01, 0x90, 0, 0x05, 0xDC, 1, 0, 2, 0x40, 0x25, 3, 0xFF, 1, 5, 0, 0,
        0x14, 3, 0, 0, 100, 0, 50, 0, 30, 2, 0, 0] := by decide +kernel

/-- A FRAME record image (11.7). -/
theorem test_frame_record_image :
    ({ body := .frame { outcome := .exposed, planIndex := some 14, exposures := 3, late := true, truncated := false
                        headBusy := false, shortBurst := false, turn := true
                        channels := #v[some .grantedRun, some .privateRun, some .cut, none], granted := 4
                        denied := [(6, .lostArbitration)] }
       frame := 8214, epoch := 9 } : Record).encode =
      [0x01, 0, 0, 0x20, 0x16, 0, 9, 0x11, 0x8E, 0x32, 0xB8, 4, 0xE3, 0, 0, 0] := by decide +kernel

/-! ## Steps and events -/

/-- JOIN, then the listener's first mark, on the step itself. -/
theorem test_join_and_mark_step :
    (match step { standby with pending := [.join 0] } with
      | .next t => t.membership.state == .listening && t.pending.isEmpty && t.port.result == some .accepted
      | .fault _ | .refused _ => false) = true ∧
    (match step { rising (inRig .listening .watching) with pending := [.frameMark] } with
      | .next t => t.transceiver.windowOpen && t.barrier.frameNo == 7
      | .fault _ | .refused _ => false) = true := by decide +kernel

/-- On an empty queue the clock moves to the tick of the pull, and there the pull enters the queue. -/
theorem test_tick_moves_the_clock_then_queues_the_pull :
    let s : State := { active .released with barrier := { (active .released).barrier with pullDue := true, markTick := 0 } }
    ((tick s).now = 1 ∧ (tick s).pending = []) ∧ (tick (tick s)).now = 1 ∧ (tick (tick s)).pending = [.participantPull] := by
  decide +kernel

/-- A high sample that completes a rise enters the queue as the mark. -/
theorem test_tick_queues_the_mark : (tick marking).pending = [.frameMark] ∧ (tick marking).now = 0 := by decide +kernel

/-- Each sample takes a tick of its own, and only low, low, high, high is a mark (R1, R2). -/
theorem test_a_mark_takes_four_samples_of_four_ticks :
    let s := inRig .listening .watching
    let fed (levels : List Bool) : State := run (levels.map .frameLevelChange) s
    (fed [false, false, true, true]).now = 3 ∧ (fed [false, false, true, true]).transceiver.windowOpen = true ∧
      (fed [false, false, true]).transceiver.windowOpen = false ∧ (fed [false, true, true]).transceiver.windowOpen = false ∧
      (fed [false, false, true, false, true]).transceiver.windowOpen = false := by decide +kernel

/-- No mark without the history, and after one a fresh rise is needed (R2). -/
theorem test_frame_mark_needs_the_history :
    (run [.frameMark] (inRig .listening .watching)).transceiver.windowOpen = false ∧
      (run [.frameMark, .frameMark] (rising (inRig .listening .watching))).transceiver.windowStart = some 0 := by
  decide +kernel

/-- A listener that took a mark at the tick of its listen expiry goes on listening (R15). -/
theorem test_the_mark_may_come_before_the_listen_expiry :
    (run [.frameMark, .listenTimerExpiry] (rising (inRig .listening .watching))).membership.state = .listening ∧
      (run [.listenTimerExpiry] (rising (inRig .listening .watching))).membership.state = .founding := by decide +kernel

/-- MISO is high-impedance outside a transaction; an unassigned byte has one filler byte before RANGE (R169, R170). -/
theorem test_miso :
    standby.port.miso 3 0 = none ∧ (run [.verify] standby).port.miso 3 0 = some 0 ∧
      (run [.verify] standby).port.miso 3 3 = some 0x01#8 ∧
      (run [.unassignedCommand 0x00#8 0] standby).port.miso 3 1 = some 0x04#8 ∧
      (run [.verify, .transactionCutShort (.inData 0)] standby).port.miso 3 0 = none := by decide +kernel

/-- The window timer of a parting note runs to the note's end (R27). -/
theorem test_the_window_timer_outlasts_the_parting_note :
    let left : State := { standby with transceiver := { windowStart := some 0, parting := some note } }
    (run [.partingNoteSend] left).transceiver.windowStart = some 0 ∧
      (run [.partingNoteSend, .ownNoteCompletion []] left).transceiver.windowStart = none := by decide +kernel

/-- The own note's first bit is a 0: its second half is the released one (R21, R33). -/
theorem test_readback_of_the_first_bit :
    let s := windowed (active .holding)
    let sent : State := { s with transceiver := { s.transceiver with sending := some { note, start := 0, judged := true } } }
    (run [.ownNoteCompletion [(false, true)]] sent).membership.state = .active ∧
      (run [.ownNoteCompletion [(true, false)]] sent).membership.state = .detached := by decide +kernel

/-- At TCLK's return a waiting RESTART lets the FRAME record of the detach go ahead, whatever the choices (R164). -/
theorem test_frame_record_before_a_waiting_restart (k : Nat) :
    let frame : Record := { body := .frame ((active .holding).frameReport true), frame := 7, epoch := 0 }
    let fault : Record := { body := .fault .timebaseLost, frame := 7, epoch := 0 }
    (mergeReturning 3 k [frame, fault] [(.restart, false)])[0]? = some (.record frame) := by
  simp [mergeReturning, awaitsRecords, Record.isFrame, RecordBody.code]

/-- The first tick after TCLK's return counts (R176). -/
theorem test_tclk_return_counts_its_tick :
    (run [.timebaseLoss, .tclkReturn] standby).now = 1 ∧ (run [.timebaseLoss, .tclkReturn] standby).timebase.settle = 1 ∧
      (run [.timebaseLoss, .tclkReturn] standby).timebase.lock = .settling := by decide +kernel

/-- A READ LOG still waiting when the next transaction begins loses its record, and the loss is counted (R167, R170). -/
theorem test_a_waiting_read_log_is_counted_when_cut :
    let s : State := { standby with log := { queue := [{ body := .stall, frame := 0, epoch := 0 }] } }
    let t := run [.timebaseLoss, .readLog, .readStatus, .tclkReturn] s
    t.log.gap = 1 ∧ t.log.queue = [] ∧ t.port.result = some .accepted ∧ t.port.data.length = 17 := by decide +kernel

/-- The last sample before a loss of TCLK stays in the history as it was taken (R2; log entry 4): after the return one low
sample is one low sample. -/
theorem test_samples_before_a_loss_stay :
    let across (last : Bool) : State :=
      (run [.frameLevelChange last, .timebaseLoss, .frameLevelChange false, .tclkReturn, .frameLevelChange false,
        .frameLevelChange true] standby).elapse 1
    (across true).frameIn = true ∧ (across true).risesNow = false ∧ (across false).risesNow = true := by decide +kernel

/-- A window end that splits appends no SLIP record; a listener's fourth quiet window does (R18, R140; log entry 39). -/
theorem test_slip_records_of_detaching_window_ends :
    let ahead : Note := { note with index := 0, frame := 9 }
    let slips (s : State) : Bool :=
      s.endRecords.flatten.any fun r =>
        match r.body with
        | .slip _ _ => true
        | _ => false
    let split : State :=
      hearing 0 (.slip ahead) (hearing 2 (.valid { note with kind := .join, epoch := 5 })
        { windowed (active .holding) with roster := { members := [member], settled := 4 } })
    let quiet : State :=
      hearing 0 (.slip ahead)
        { windowed (inRig .listening .watching) with membership := { state := .listening, adopted := some 7, quiet := 3 } }
    split.adoption = .slip 9 ∧ split.endFault = some .epochSplit ∧ slips split = false ∧ quiet.adoption = .slip 9 ∧
      quiet.endFault = some .noNotes ∧ slips quiet = true := by decide +kernel

/-- A mark during the window closes it early: no complete view (R24, R50). -/
theorem test_a_mark_closes_an_open_window :
    let s := run [.frameMark] (rising (windowed (active .released)))
    s.transceiver.windowOpen = true ∧ s.roster.view = some false ∧ s.barrier.frameNo = 8 := by decide +kernel

/-! ## Witnesses: the port -/

theorem witness_EmptyQueueLetsOneTickPass :
    State.reset.pending = [] ∧ State.reset.ticking = true ∧ State.reset.dueNow = [] ∧ State.reset.dueEvents = [] ∧
      ({ State.reset with rstnLow := true } : State).ticking = false ∧
      ({ State.reset with timebase := { lost := true } } : State).ticking = false ∧ marking.dueNow = [.frameMark] ∧
      ({ active .holding with barrier := { (active .holding).barrier with minTimeDue := some 0 } } : State).dueEvents ≠ [] ∧
      ({ rising (inRig .listening .watching) with now := 200000 } : State).risesNow = true ∧
      Instr.listenTimerExpiry ∈ ({ rising (inRig .listening .watching) with now := 200000 } : State).dueEvents ∧
      ({ windowed (active .holding) with now := 257 } : State).dueEvents = [] ∧
      ({ windowed (active .holding) with now := 258 } : State).dueEvents = [.ownTransmissionStart] ∧
      ({ windowed (active .holding) with now := 1000 } : State).dueEvents = [.ownTransmissionStart, .windowEnd] := by
  decide +kernel
theorem witness_CommandsNeedATick :
    isCommand .verify = true ∧ isCommand (.setProfile []) = true ∧ isCommand (.unassignedCommand 1 0) = true ∧
      ({ State.reset with rstnLow := true } : State).rstnLow = true ∧ State.reset.rstnLow = false ∧
      ({ State.reset with timebase := { lost := true } } : State).timebase.lost = true ∧
      assignedCodes.contains 0x00#8 = false ∧ assignedCodes.contains 0x31#8 = true ∧ standby.ticking = true ∧
      2 < (3#8).toNat ∧ 1 < (2#8).toNat := by decide
theorem witness_TransactionBytesSpellTheirCommand :
    (Instr.leaveSegmentEnd).wellFormed = true ∧ commandBytes .leaveSegmentEnd = some [0x31, 1] ∧
      (Instr.unassignedCommand 0x42#8 2).wellFormed = true ∧
      commandBytes (.unassignedCommand 0x42#8 2) = some [0x42, 2] ∧
      (Instr.setProfile (List.replicate 14 0)).wellFormed = true ∧
      commandBytes (.setProfile (List.replicate 14 0)) = some (0x10 :: List.replicate 14 0) := by decide
theorem witness_ProfilesAreStoredUncheckedAndCheckedIntoForce :
    State.reset.ticking = true ∧ State.reset.rstnLow = false ∧ State.reset.membership.state = .unconfigured ∧
      14 ≤ profileImage.length ∧ (profileImage.take 13).length < 14 ∧ standby.ticking = true ∧
      standby.membership.state ≠ .unconfigured ∧ Profile.decode State.reset.store = none ∧
      ({ State.reset with store := profileImage } : State).membership.state = .unconfigured ∧
      Profile.decode ({ State.reset with store := profileImage } : State).store = some profile := by decide +kernel
theorem witness_AcceptedProfilesKeepTheirRanges : Profile.decode profileImage = some profile := by decide +kernel
theorem witness_CutTransactionsLoseTheirReply :
    standby.rstnLow = false ∧ standby.port.data.length ≤ 0 ∧
      0 < ({ standby with port := { data := [1] } } : State).port.data.length ∧ standby.port.logTaken = .nothing := by decide
theorem witness_ReadStatusReturnsTheStatusImage :
    let s : State :=
      { standby with
        verifier := .idle (some 5), epochs := { turn := .advanceDue true, ready := some .keep, staged := some 9 } }
    let failed : State := { standby with verifier := .fail 3 .phase, epochs := { ready := some .switch } }
    State.reset.ticking = true ∧ s.ticking = true ∧ s.verifier = .idle (some 5) ∧ s.statusImage.take 4 = [0x10, 0x30, 0x85, 0] ∧
      s.epochs.turn = .advanceDue true ∧ s.epochs.ready = some .keep ∧ s.epochs.staged = some 9 ∧
      (s.statusImage.drop 10).take 2 = [0xD4, 0x89] ∧ failed.verifier = .fail 3 .phase ∧
      failed.epochs.ready = some .switch ∧ failed.statusImage.take 4 = [0x10, 0xD0, 0x83, 2] := by decide +kernel
theorem witness_ReadLogYieldsGapThenOldestThenEmpty :
    let f : FrameReport :=
      { ((active .holding).frameReport false) with denied := [(3, .forfeit)], planIndex := some 0, exposures := 2 }
    standby.ticking = true ∧ 0 < ({ standby with log := { gap := 1 } } : State).log.gap ∧
      ({ standby with log := { queue := [{ body := .stall, frame := 0, epoch := 0 }] } } : State).log.queue =
        { body := .stall, frame := 0, epoch := 0 } :: [] ∧ standby.log.gap = 0 ∧ standby.log.queue = [] ∧
      f.planIndex = some 0 ∧ f.exposures ≤ 4 ∧ f.denied[0]? = some (3, .forfeit) ∧ f.denied[1]? = none ∧
      f.denied[3]? = none := by decide +kernel
theorem witness_ReadsOfRosterGrantsAndPlansReturnTheirImages :
    let g : GrantTable := grantTable 4 [(2, [{ lane := 3, priority := 1 }])] 8 true
    (active .released).ticking = true ∧ 15 < (16#8).toNat ∧ (active .released).profile.isSome = true ∧
      (active .released).prof.width ≤ (4 : Fin 16).val ∧ State.reset.profile = none ∧
      (3 : Fin 16).val < (active .released).prof.width ∧ (active .released).ownEntry.isSome = true ∧
      (1 : Fin 16) = (active .released).prof.index ∧ standby.ownEntry = none ∧
      ({ standby with roster := { members := [member] } } : State).roster.entry 2 = some member ∧
      standby.roster.entry 2 = none ∧ member.misses ≤ 7 ∧ member.lastHeard = some 6 ∧
      ({ member with stamp := some (7, 1) } : Member).stamp = some (7, 1) ∧ standby.resolver.table = none ∧
      ({ standby with resolver := { table := some g } } : State).resolver.table = some g ∧
      ({ standby with resolver := { inUseFrame := some 7 } } : State).resolver.inUseFrame = some 7 ∧
      (g.lanes.get 3).winner = some (2, 1) ∧ 63 < (64#8).toNat ∧ standby.plan? 63 = none ∧
      standby.plan? 0 = some (plan (.repeats 0)) ∧ standby.live 0 = false ∧ (active .released).live 0 = true := by
  decide +kernel
theorem witness_WritePlanReplacesTheEntryWholeOrChangesNothing :
    let linked : List Byte := (plan .park).encode.set 19 0x40#8
    let referred : List Byte := (plan .park).encode.set 24 0x30#8
    standby.ticking = true ∧ 72 ≤ (plan .park).encode.length ∧ standby.membership.state ≠ .unconfigured ∧
      standby.live 63 = false ∧ decodeEntry ((plan .park).encode.take 72) = some (some (plan .park)) ∧
      decodeEntry ((List.replicate 72 0).take 72) = some none ∧ decodeEntry ((List.replicate 72 2).take 72) = none ∧
      byteAt (List.replicate 72 2) 0 = 2 ∧ byteAt linked 0 = 1 ∧ byteAt linked 19 = 64 ∧ linked.length = 72 ∧
      byteAt ((plan .park).encode.set 20 4) 20 = 4 ∧ byteAt referred 18 / 2 ^ (0 : Fin 4).val % 2 = 1 ∧
      byteAt referred (24 + 12 * (0 : Fin 4).val) / 16 % 4 = 3 ∧
      byteAt ((plan .park).encode.set 25 8) (25 + 12 * (0 : Fin 4).val) = 8 ∧
      ({ standby with verifier := .running 3 } : State).verifier = .running 3 ∧ 63 < (64#8).toNat ∧
      State.reset.membership.state = .unconfigured ∧ (active .released).live 0 = true := by decide +kernel
theorem witness_PlanImagesSpellTheirPlanOrAreMalformed :
    let image : List Byte := (plan (.next 63)).encode
    let ended (action loops : Byte) : List Byte := (plan .park).encode.set 20 action |>.set 21 loops
    (plan (.repeats 255)).inRange = true ∧ (plan .depart).inRange = true ∧ (plan (.next 63)).inRange = true ∧
      byteAt (List.replicate 72 0) 0 = 0 ∧ 2 ≤ byteAt (image.set 0 2) 0 ∧ byteAt image 0 = 1 ∧
      decodeEntry image = some (some (plan (.next 63))) ∧ byteAt image 19 = (63 : Fin 64).val ∧
      (List.map decodeEntry
        [image.set 19 0x40, image.set 19 0xFE, ended 4 0, image.set 20 1, image.set 21 1, ended 0 0, ended 2 1, ended 3 1,
          image.set 24 0x30, image.set 25 8, image.set 25 16, image.set 26 0x10, image.set 30 0, image.set 33 0,
          image.set 33 17, image.set 1 0x10, image.set 4 0x10, image.set 7 0, image.set 7 5, image.set 10 0x10,
          image.set 13 0, image.set 13 17, image.set 14 16, image.set 15 0]).all (· == none) = true ∧
      (decodeEntry (image.set 49 8)).isSome = true ∧ (decodeEntry (image.set 25 0x0F)).isSome = true ∧
      (decodeEntry (ended 1 255)).isSome = true ∧ (decodeEntry (ended 2 0)).isSome = true ∧
      (decodeEntry (ended 3 0)).isSome = true := by decide +kernel
theorem witness_NotesAreHeardAsSentOrByTheFirstFailedCheck :
    let bytes : List Byte := note.encode
    let signed (body : List Byte) : List Byte := body ++ bytes2 (crc16 body).toNat
    let heard (k : Nat) : List Bool := (bytes.flatMap bitsOfByte).take k
    note.wellMade = true ∧ (0#16) ≠ note.digest ∧ 12 ≤ bytes.length ∧ 14 + byteAt bytes 11 = bytes.length ∧
      byteAt bytes 0 = 0x2D ∧ (crc16 (bytes.take 14)).toNat = pairAt bytes 14 ∧ pairAt bytes 9 = note.digest.toNat ∧
      classify 0x1234#16 2 (bytes.take 15) = .garbage ∧ classify 0x1234#16 2 (bytes.set 11 5) = .garbage ∧
      classify 0x1234#16 2 (signed (note.body.set 0 0x2C)) = .garbage ∧
      classify 0x1234#16 2 (bytes.set 3 1) = .garbage ∧ classify 0x1235#16 3 bytes = .foreign ∧
      classify 0x1234#16 2 (signed (note.body.set 2 0xA0)) = .garbage ∧
      classify 0x1234#16 2 (signed (note.body.set 2 0x80)) = .garbage ∧
      classify 0x1234#16 2 (signed (note.body.set 13 0x0C)) = .garbage ∧ classify 0x1234#16 3 bytes = .garbage ∧
      classify 0x1234#16 2 (signed (note.body.set 2 0x7E)) = .valid note ∧ (heard 95).length < 96 ∧
      (heard 127).length = 127 ∧ (((heard 127).drop 88).take 8).foldl (fun v b => 2 * v + b.toNat) 0 = 2 := by
  decide +kernel
theorem witness_VerifyWalksTheTableAndConcludes :
    State.reset.ticking = true ∧ State.reset.membership.state = .unconfigured ∧
      (inRig .detached .dormant).membership.state = .detached ∧ standby.ticking = true ∧
      standby.membership.state ≠ .unconfigured ∧ standby.membership.state ≠ .detached ∧
      ({ standby with verifier := .running 3 } : State).verifier = .running 3 ∧
      ∀ since, standby.verifier ≠ .running since :=
  ⟨by decide, by decide, by decide, by decide, by decide, by decide, by decide, fun _ h => by cases h⟩
theorem witness_VerdictIsTheFirstFaultInWalkOrder :
    let late : Plan := { plan .park with phase := 1 }
    let broken : PlanTable := table.set 1 (some late)
    let empty : PlanTable := table.set 1 (some (plan (.next 2)))
    let ring : PlanTable := table.set 0 (some (plan (.next 1)))
    table.get 0 = some (plan (.repeats 0)) ∧ table.get 1 = some (plan (.next 0)) ∧ ([1, 0] : List (Fin 64)).Nodup ∧
      walk table 50000 = (1280 + (1 + 2), .pass) ∧ broken.get 1 = some late ∧ late.divisor ≤ late.phase ∧
      late.minFrameTime ≤ 50000 ∧ walk broken 50000 = (20 * (1 + 1), .fail 1 .phase) ∧
      empty.get 1 = some (plan (.next 2)) ∧ empty.get 2 = none ∧
      walk empty 50000 = (1280 + 1 + 1, .fail 1 .linkEmpty) ∧ ring.get 1 = some (plan (.next 0)) ∧
      (0 : Fin 64) ∈ ([0, 1] : List (Fin 64)) ∧ walk ring 50000 = (1280 + 0 + 2, .fail 0 .cycle) := by decide +kernel

/-! ## Witnesses: membership and epochs -/

theorem witness_JoinMakesTheStationListen :
    standby.ticking = true ∧ (active .released).membership.state ≠ .standby ∧ standby.membership.state = .standby ∧
      ({ standby with timebase := { lock := .settling } } : State).timebase.lock ≠ .locked ∧
      standby.timebase.lock = .locked ∧ 63 < (64#8).toNat ∧
      ({ standby with verifier := .idle none } : State).verifier ≠ .pass ∧ standby.verifier = .pass ∧
      standby.plan? 63 = none ∧ (standby.plan? 0).isSome = true := by decide +kernel
theorem witness_LeaveBeforeFlushingEntersStandby :
    let parting : State := { inRig .listening .watching with transceiver := { windowStart := some 0, parting := some note } }
    (run [.leaveImmediate] parting).transceiver = parting.transceiver ∧ parting.membership.state = .listening ∧
      (inRig .listening .watching).ticking = true ∧ (inRig .listening .watching).membership.state = .listening ∧
      (inRig .founding .pulsing).membership.state = .founding ∧ (inRig .joining .watching).membership.state = .joining := by
  decide
theorem witness_LeaveAtFrameEndPicksItsLeavingFrame :
    (active .released).ticking = true ∧ (active .released).membership.state = .active ∧
      (inRig .flushing .holding).membership.state = .flushing ∧ (active .released).membership.pendingLeave ≠ some .frameEnd ∧
      (active .released).slotPassed = true ∧ (windowed (active .holding)).slotPassed = false ∧
      ({ active .released with membership := { state := .active, pendingLeave := some .frameEnd } } : State).membership.pendingLeave =
        some .frameEnd ∧
      standby.membership.state = .standby := by decide
theorem witness_LeaveAtSegmentEndWaitsForThePass :
    (active .released).ticking = true ∧ (active .released).membership.state = .active ∧
      (active .released).membership.pendingLeave = none ∧ (active .released).cursor.parked = false ∧
      (active .released).cursor.lastRepetition = false ∧
      ({ active .released with cursor := { parked := true } } : State).cursor.parked = true ∧
      (active .released).cursor.lookahead = some (.apply 0) ∧ (active .released).cursor.repeatsLeft = 1 ∧
      (inRig .flushing .holding).membership.state = .flushing ∧ (inRig .leaving .holding).membership.state = .leaving := by
  decide
theorem witness_LeaveAtOnceDrainsOrEntersStandby :
    (active .holding).ticking = true ∧ (active .holding).membership.state = .active ∧
      (active .holding).barrier.phase = .holding ∧ (active .released).barrier.phase = .released ∧
      (inRig .leaving .draining).barrier.phase = .draining ∧
      (((active .holding).setGenerator 0 (lit .on 1 .complete)).generators.get 0).phase = .on ∧
      (((active .holding).setGenerator 0 (lit .on 1 .complete)).generators.get 0).record =
        some (strobe 0 (some 3) .firstExpose .complete) ∧
      (∀ c, ((active .holding).generators.get c).phase ≠ .on) ∧ standby.membership.state = .standby ∧
      ((active .holding).generators.get 1).phase = .done ∧
      (((active .holding).setGenerator 2 (lit .off 1 .complete)).generators.get 2).phase = .off ∧
      (((active .holding).setGenerator 2 (lit .on 1 .truncate)).generators.get 2).record =
        some (strobe 0 (some 3) .firstExpose .truncate) := by decide +kernel
theorem witness_RestartReturnsTheStation :
    (active .holding).ticking = true ∧ State.reset.ticking = true ∧
      ({ standby with verifier := .running 3 } : State).verifier = .running 3 ∧
      ∀ since, standby.verifier ≠ .running since := ⟨by decide, by decide, by decide, fun _ h => by cases h⟩
theorem witness_ClearFaultLeavesDetached :
    (inRig .detached .dormant).ticking = true ∧ (inRig .detached .dormant).membership.state = .detached ∧
      ({ inRig .detached .dormant with timebase := {} } : State).timebase.lock ≠ .locked ∧
      standby.membership.state ≠ .detached := by decide
theorem witness_StageAndUnstageSetTheStagedSegment :
    standby.ticking = true ∧ (inRig .leaving .released).membership.state = .leaving ∧
      standby.membership.pendingLeave = none ∧ standby.epochs.ready = none ∧ standby.membership.state = .standby ∧
      63 < (64#8).toNat ∧ ({ standby with verifier := .idle none } : State).verifier ≠ .pass ∧ standby.verifier = .pass ∧
      standby.plan? 63 = none ∧ (standby.plan? 0).isSome = true ∧
      ({ active .released with epochs := { ready := some .keep } } : State).epochs.ready.isSome = true := by decide +kernel
theorem witness_ReadyAndUnreadySetAndWithdrawTheReadyFlag :
    (active .released).ticking = true ∧ (active .released).membership.state = .active ∧
      (active .released).membership.pendingLeave = none ∧ (active .released).epochs.ready = none ∧
      ({ active .released with epochs := { staged := some 1 } } : State).epochs.staged.isSome = true ∧
      (active .released).epochs.staged = none ∧ standby.membership.state ≠ .active ∧
      ({ active .released with epochs := { ready := some .switch } } : State).epochs.ready = some .switch ∧
      standby.ticking = true ∧ State.reset.membership.state = .unconfigured ∧ standby.epochs.turn = .idle ∧
      standby.epochs.ready = none ∧
      ({ active .released with epochs := { turn := .catchingUp } } : State).epochs.turn ≠ .idle ∧
      ({ active .released with epochs := { ready := some .keep } } : State).readyOut = false ∧
      ({ active .holding with
          epochs := { ready := some .keep }
          transceiver := { windowOpen := true, ownPassed := true, image := some note } } : State).readyOut = true := by decide

/-! ## Witnesses: the mark, the samples and the barrier's timers -/

theorem witness_ListenerTakesAMark :
    let s := rising (inRig .listening .watching)
    s.ticking = true ∧ s.risesNow = true ∧ s.transceiver.windowOpen = false ∧ s.barrier.phase = .watching ∧
      s.membership.state = .listening := by decide
theorem witness_FirstMarkStartsTheFlushFrame :
    let s := rising (inRig .joining .watching)
    let f := rising (inRig .founding .watching)
    let looped : State := { s with table := table.set 0 (some (plan (.repeats 3))) }
    let departs : State := { s with table := table.set 0 (some (plan .depart)) }
    let path : List (Fin 64) := [1, 0]
    s.ticking = true ∧ s.risesNow = true ∧ s.transceiver.windowOpen = false ∧ s.barrier.phase = .watching ∧
      s.membership.joinSegment = some 0 ∧ s.plan? 0 = some (plan (.repeats 0)) ∧ s.epochs.turn = .idle ∧
      s.membership.state = .joining ∧ f.risesNow = true ∧ f.barrier.phase = .watching ∧ f.membership.state = .founding ∧
      path.Nodup ∧ path.head? = some 1 ∧ looped.plan? 1 = some (plan (.next 0)) ∧ path.getLast? = some 0 ∧
      looped.plan? 0 = some (plan (.repeats 3)) ∧ startLoops looped.table 1 = .passes 3 ∧
      (run [.frameMark] f).resolver.inUseFrame = some 0 ∧ (run [.frameMark] s).resolver.inUseFrame = none ∧
      startLoops s.table 0 = .forever ∧ (run [.frameMark] departs).membership.pendingLeave = some .segmentEnd := by
  decide +kernel
theorem witness_ParticipantMarkBeginsTheNextFrame :
    let s := marking
    let holds (c : Content) : State := { s with cursor := { s.cursor with lookahead := some c } }
    s.ticking = true ∧ s.risesNow = true ∧ s.transceiver.windowOpen = false ∧ s.barrier.phase = .released ∧
      s.membership.state = .active ∧ (rising (inRig .flushing .released)).membership.state = .flushing ∧
      s.epochs.turn = .idle ∧ s.membership.pendingLeave ≠ some .frameEnd ∧ s.membership.leavingFrame = false ∧
      s.cursor.lookahead = some (.apply 0) ∧ Content.apply 0 ≠ .leave ∧ s.plan? 0 = some (plan (.repeats 0)) ∧
      (plan (.repeats 0)).onChannel 3 = none ∧ (plan (.repeats 0)).dark = false ∧
      1 < (plan (.repeats 0)).burstCount ∧ s.membership.state ≠ .flushing ∧ (run [.frameMark] s).cursor.parked = false ∧
      (run [.frameMark] s).cursor.entry = some 0 ∧ (holds .parked).cursor.lookahead = some .parked ∧
      (holds (.settle 0)).cursor.lookahead = some (.settle 0) ∧ (∀ e, Content.parked ≠ .apply e) ∧
      (run [.frameMark] { holds .parked with sequencer := { made := 1, skipAt := some 2 } }).sequencer = {} ∧
      (run [.frameMark] { s with cursor := { s.cursor with parked := true, lookahead := some .parked } }).cursor.parked =
        true := by decide +kernel
theorem witness_RepetitionsRunOutAndMoveTheCursor :
    let s := marking
    let at_ (repeats : Nat) (loops : Loops) : State :=
      { s with cursor := { s.cursor with repeatsLeft := repeats, loopsLeft := loops } }
    let on1 (link : Link) : State :=
      { s with
        table := (table.set 1 (some (plan link)))
        cursor := { s.cursor with entry := some 1, lookahead := some (.apply 1) } }
    s.ticking = true ∧ s.risesNow = true ∧ s.transceiver.windowOpen = false ∧ s.barrier.phase = .released ∧
      s.membership.state = .active ∧ (rising (inRig .flushing .released)).membership.state = .flushing ∧
      s.epochs.turn = .idle ∧ s.membership.pendingLeave ≠ some .frameEnd ∧ s.membership.leavingFrame = false ∧
      s.cursor.lookahead = some (.apply 0) ∧ s.cursor.entry = some 0 ∧ s.plan? 0 = some (plan (.repeats 0)) ∧
      2 ≤ (at_ 2 .forever).cursor.repeatsLeft ∧ (at_ 1 .forever).cursor.repeatsLeft ≤ 1 ∧
      s.cursor.segment = some 0 ∧ (at_ 1 .forever).cursor.loopsLeft = .forever ∧
      (at_ 1 (.passes 2)).cursor.loopsLeft = .passes (0 + 2) ∧ (at_ 1 (.passes 1)).cursor.loopsLeft = .passes 1 ∧
      (on1 (.next 0)).plan? 1 = some (plan (.next 0)) ∧ (on1 .park).plan? 1 = some (plan .park) ∧
      (on1 .depart).plan? 1 = some (plan .depart) ∧ (on1 .park).cursor.entry = some 1 := by decide +kernel
theorem witness_LaneRecordsAreDecidedFromTheGrantTable :
    let s := marking
    let claimed (i : Fin 16) : GrantTable := grantTable 4 [(i, [{ lane := 3, priority := 1 }])] 8 true
    let tabled (g : GrantTable) : State := { s with resolver := { table := some g } }
    s.ticking = true ∧ s.risesNow = true ∧ s.transceiver.windowOpen = false ∧ s.barrier.phase = .released ∧
      s.membership.state = .active ∧ s.epochs.turn = .idle ∧ s.cursor.lookahead = some (.apply 0) ∧
      s.plan? 0 = some (plan (.repeats 0)) ∧ s.resolver.table = none ∧ (claimed 1).frame = s.barrier.frameNo + 1 ∧
      (claimed 1).complete = true ∧ (tabled (claimed 1)).resolver.table = some (claimed 1) ∧
      ((claimed 1).lanes.get 3).winner = some (s.prof.index, 1) ∧ ((claimed 2).lanes.get 3).winner = some (2, 1) ∧
      ((run [.frameMark] (tabled (claimed 1))).generators.get 0).decision = some .granted ∧
      ((run [.frameMark] (tabled (claimed 2))).generators.get 0).decision = some (.denied .lostArbitration) ∧
      ((run [.frameMark] s).generators.get 0).decision = some (.denied .forfeit) ∧
      ((run [.frameMark] s).generators.get 1).decision = some .unarbitrated ∧
      ((run [.frameMark] s).generators.get 1).phase = .delay ∧
      (plan .park).onChannel 1 = some (strobe 1 none .mark .truncate) ∧ (plan .park).onChannel 2 = none := by decide +kernel
theorem witness_AdvanceDueTakesEffectAtTheMark :
    let s : State :=
      { marking with epochs := { turn := .advanceDue true, ready := some .switch, staged := some 1, announced := true } }
    s.ticking = true ∧ s.risesNow = true ∧ s.transceiver.windowOpen = false ∧ s.barrier.phase = .released ∧
      s.membership.state = .active ∧ s.epochs.turn = .advanceDue true ∧ s.epochs.ready = some .switch ∧
      s.epochs.staged.isSome = true ∧
      ({ s with epochs := { turn := .advanceDue false, ready := some .keep } } : State).epochs.ready = some .keep ∧
      (run [.frameMark] s).membership.state = .active ∧ (run [.frameMark] s).cursor.current = some (.apply 1) ∧
      s.plan? 1 = some (plan (.next 0)) ∧ (plan (.next 0)).onChannel 1 = some (strobe 1 none .mark .truncate) ∧
      (plan (.next 0)).onChannel 0 = some (strobe 0 (some 3) .firstExpose .complete) ∧
      (plan (.next 0)).onChannel 3 = none ∧
      ((run [.frameMark] s).generators.get 1).decision = some .unarbitrated ∧
      ((run [.frameMark] s).generators.get 0).outcome = some (.denied .turn) ∧
      (run [.frameMark] { s with membership := { state := .active, pendingLeave := some .frameEnd } }).membership.state =
        .leaving ∧
      (run [.frameMark] { s with table := table.set 1 (some { plan .depart with repeatCount := 1 }) }).membership.state =
        .leaving := by decide +kernel
theorem witness_TheMarkOfTheLeavingFrameMakesTheStationLeaving :
    let s : State := { marking with membership := { state := .active, joinSegment := some 0, pendingLeave := some .frameEnd } }
    let marked : State :=
      { rising (inRig .flushing .released) with
        membership := { state := .flushing, joinSegment := some 0, pendingLeave := some .segmentEnd, leavingFrame := true } }
    let at_ (repeats : Nat) (loops : Loops) : State :=
      { s with cursor := { s.cursor with repeatsLeft := repeats, loopsLeft := loops } }
    let on1 (link : Link) : State :=
      { s with
        table := (table.set 1 (some (plan link)))
        cursor := { s.cursor with entry := some 1, lookahead := some (.apply 1) } }
    let holds (c : Content) : State := { s with cursor := { s.cursor with lookahead := some c } }
    s.ticking = true ∧ s.risesNow = true ∧ s.transceiver.windowOpen = false ∧ s.barrier.phase = .released ∧
      s.membership.state = .active ∧ s.membership.pendingLeave = some .frameEnd ∧ s.epochs.turn = .idle ∧
      s.cursor.lookahead = some (.apply 0) ∧ Content.apply 0 ≠ .leave ∧ marked.risesNow = true ∧
      marked.membership.state = .flushing ∧ marked.membership.leavingFrame = true ∧
      (holds (.settle 0)).cursor.lookahead = some (.settle 0) ∧ (holds .parked).cursor.lookahead = some .parked ∧
      s.plan? 0 = some (plan (.repeats 0)) ∧ (plan (.repeats 0)).dark = false ∧ 1 < (plan (.repeats 0)).burstCount ∧
      (plan (.repeats 0)).onChannel 3 = none ∧ s.cursor.entry = some 0 ∧ 2 ≤ (at_ 2 .forever).cursor.repeatsLeft ∧
      (at_ 1 .forever).cursor.repeatsLeft ≤ 1 ∧ s.cursor.segment = some 0 ∧
      (at_ 1 .forever).cursor.loopsLeft = .forever ∧ (at_ 1 (.passes 2)).cursor.loopsLeft = .passes (0 + 2) ∧
      (at_ 1 (.passes 1)).cursor.loopsLeft = .passes 1 ∧ (on1 (.next 0)).plan? 1 = some (plan (.next 0)) ∧
      (on1 .park).plan? 1 = some (plan .park) ∧ (on1 .depart).plan? 1 = some (plan .depart) ∧
      (run [.frameMark] s).membership.state = .leaving ∧ (run [.frameMark] s).cursor.current = some (.apply 0) ∧
      (run [.frameMark] s).sequencer.schedule.length = 2 ∧ (run [.frameMark] s).barrier.runFrame = 8 := by decide +kernel
theorem witness_MarkClosesAnOpenWindowFirst :
    let s := rising (windowed (active .released))
    let split : State :=
      hearing 2 (.valid { note with epoch := 5 })
        { rising (windowed (active .released)) with roster := { members := [member], settled := 4 } }
    split.risesNow = true ∧ split.barrier.phase ≠ .holding ∧ split.endFault = some .epochSplit ∧
      (run [.frameMark] split).membership.fault = some .epochSplit ∧ s.transceiver.windowStart = some 0 ∧
      0 + s.prof.width * s.prof.slotTime ≤ 16000 ∧
      s.ticking = true ∧ s.risesNow = true ∧ s.transceiver.windowOpen = true ∧ s.barrier.phase ≠ .holding ∧
      s.endFault = none ∧ s.membership.state.judgesSplit = true ∧
      ({ s with now := 1000 } : State).windowEndTick ≤ ({ s with now := 1000 } : State).now ∧
      s.timebase.settle ≤ 2000 := by decide +kernel
theorem witness_FrameSamplesBuildTheMarkHistory :
    (active .released).ticking = true ∧ ({ active .released with rstnLow := true } : State).ticking = false ∧
      (active .released).barrier.sampled = false ∧ (run [.frameLevelChange false] (active .released)).barrier.sampled = true ∧
      marking.risesNow = true ∧ (active .released).risesNow = false ∧ (rising standby).ticking = true ∧
      (rising standby).risesNow = true ∧ (rising standby).barrier.phase = .dormant ∧
      (rising standby).transceiver.windowOpen = false ∧ (rising standby).inOrder = true ∧
      (rising (active .holding)).inOrder = true ∧ (rising (active .holding)).barrier.phase = .holding := by decide +kernel
theorem witness_OutputPinsShowTheState :
    let worded (at_ : Nat) : State :=
      { inFrame id { headWord := some { mode := 1, code := 0x25, start := 0 } } with now := at_ }
    let sent (at_ : Nat) : State :=
      { windowed (active .holding) with now := at_, transceiver := { sending := some { note, start := 0, judged := true } } }
    (worded 0).sequencer.headWord = some { mode := 1, code := 0x25, start := 0 } ∧
      (List.range 12).map (fun k => (worded k).pins.hcode) =
        [true, false, true, false, false, true, false, false, true, false, true, false] ∧
      standby.sequencer.headWord = none ∧ standby.transceiver.sending = none ∧
      (sent 0).transceiver.sending = some { note, start := 0, judged := true } ∧
      note.encode[0 / 8]? = some 0x2D#8 ∧ (sent 2).pins.noteReleased = (true, false) ∧
      (sent 128).pins.noteReleased = (true, true) ∧ (inRig .detached .dormant).pins.attn = true ∧
      standby.pins.attn = false := by decide +kernel
theorem witness_ParticipantPullsFrameAfterTheMark :
    let s : State := { active .released with barrier := { (active .released).barrier with pullDue := true } }
    s.ticking = true ∧ s.barrier.pullDue = true ∧ (active .released).barrier.pullDue = false := by decide
theorem witness_HoldLimitForcesTheRelease :
    (active .holding).ticking = true ∧ (active .holding).barrier.holdStart = some 0 ∧
      (active .holding).barrier.phase = .holding ∧ (active .holding).membership.state ≠ .leaving ∧
      (inRig .leaving .draining).barrier.phase = .draining ∧ (inRig .leaving .draining).barrier.holdStart = some 0 ∧
      (inRig .leaving .holding).barrier.phase = .holding ∧ (inRig .leaving .holding).membership.state = .leaving ∧
      ((active .holding).generators.get 0).settled = true ∧ (lit .on 1 .truncate).settled = false := by decide +kernel
theorem witness_StallsAreReportedOnceAndAListenerFounds :
    (active .released).ticking = true ∧ (active .released).barrier.stallStart = some 0 ∧
      (active .released).membership.state = .active ∧ (active .released).barrier.phase = .released ∧
      (inRig .joining .watching).membership.state = .joining ∧ (inRig .joining .watching).barrier.phase = .watching ∧
      (active .released).barrier.pullDue = false ∧ (active .released).barrier.stallReported = false ∧
      ({ active .released with barrier := { stallStart := some 0, stallReported := true } } : State).barrier.stallReported = true ∧
      (inRig .listening .watching).membership.state = .listening ∧ (inRig .listening .watching).barrier.marked = false ∧
      (inRig .listening .watching).barrier.stallStart = some 0 ∧
      (run [.frameMark] (rising (inRig .listening .watching))).barrier.marked = true ∧
      (run [.frameMark] (rising (inRig .listening .watching))).membership.state = .listening ∧
      (inRig .founding .pulsing).barrier.phase = .pulsing ∧ (inRig .founding .pulsing).barrier.pulseStart = some 0 := by
  decide +kernel

/-! ## Witnesses: the window -/

theorem witness_SearchSpanEndConcludesTheSlot :
    let s := windowed (active .holding)
    let l := windowed (inRig .listening .watching)
    s.ticking = true ∧ s.transceiver.windowOpen = true ∧ (3 : Fin 16).val < s.prof.width ∧ (3 : Fin 16) ≠ s.prof.index ∧
      s.outcomeOf 3 = .pending ∧ (1 : Fin 16) = l.prof.index ∧ l.membership.state = .listening ∧ l.outcomeOf 1 = .pending ∧
      (active .holding).transceiver.windowOpen = false ∧ s.prof.width ≤ (4 : Fin 16).val ∧ (1 : Fin 16) = s.prof.index ∧
      s.membership.state ≠ .listening ∧ (hearing 3 .silent s).outcomeOf 3 ≠ .pending := by decide +kernel
theorem witness_ReceptionsFillTheReceiptListAndTheRoster :
    let s := windowed (active .holding)
    let l := windowed (inRig .listening .watching)
    let own : Note := { note with index := 1 }
    s.ticking = true ∧ s.transceiver.windowOpen = true ∧ (2 : Fin 16).val < s.prof.width ∧ (2 : Fin 16) ≠ s.prof.index ∧
      s.outcomeOf 2 = .pending ∧ classify s.digest 2 (receivedBytes []) = .garbage ∧
      classify 0 2 (receivedBytes (symbolsOf note.encode)) = .foreign ∧
      classify s.digest 2 (receivedBytes (symbolsOf note.encode)) = .valid note ∧
      classify l.digest 1 (receivedBytes (symbolsOf own.encode)) = .valid own ∧ l.membership.state = .listening ∧
      own.index = l.prof.index ∧ (hearing 1 .notSent l).outcomeOf 1 = .notSent ∧ (1 : Fin 16) = l.prof.index ∧
      s.membership.state ≠ .listening ∧ s.roster.entry 2 = none ∧
      ({ s with roster := { members := [member] } } : State).roster.entry 2 = some member ∧
      ({ fall := 4, symbols := [(false, true), (true, true)] } : Reception).symbols =
        [false].map (fun b => (b, !b)) ++ (true, true) :: [] := by decide +kernel
theorem witness_OwnNoteGoesOutAtItsStart :
    let s := windowed (active .holding)
    let l := windowed (inRig .listening .watching)
    s.ticking = true ∧ s.transceiver.windowOpen = true ∧ s.transceiver.ownPassed = false ∧ s.membership.state = .active ∧
      (inRig .flushing .holding).membership.state = .flushing ∧ (inRig .flushing .holding).membership.founder = false ∧
      ({ inRig .flushing .holding with membership := { state := .flushing, founder := true } } : State).membership.founder = true ∧
      (inRig .leaving .holding).membership.state = .leaving ∧ l.membership.state = .listening ∧
      l.membership.adopted = none ∧ l.outcomeOf l.prof.index = .pending ∧
      ({ l with membership := { state := .listening, adopted := some 7 } } : State).membership.adopted.isSome = true ∧
      s.cursor.lookahead = some (.apply 0) ∧ s.plan? 0 = some (plan (.repeats 0)) ∧
      s.lookaheadClaims = [{ lane := 3, priority := 1 }] ∧
      ({ s with cursor := { s.cursor with lookahead := some .idle } } : State).lookaheadClaims = [] := by
  decide +kernel
theorem witness_OwnNoteIsJudgedAndAPartingNoteIsNot :
    let s : State := windowed (active .holding)
    let sent (judged mismatch : Bool) : State :=
      { s with transceiver := { s.transceiver with sending := some { note, start := 0, judged, mismatch } } }
    let left : State := { standby with transceiver := { windowStart := some 0, parting := some note } }
    (sent true false).ticking = true ∧
      (sent true false).transceiver.sending = some { note, start := 0, judged := true, mismatch := false } ∧
      (sent true true).transceiver.sending = some { note, start := 0, judged := true, mismatch := true } ∧
      (note.encode.flatMap bitsOfByte)[0]? = some false ∧ [(true, false)][0]? = some (true, false) ∧
      note.mismatches [(false, true)] = false ∧ note.mismatches [(true, false)] = true ∧
      (sent true false).outcomeOf (sent true false).prof.index = .pending ∧
      (sent true false).membership.state.inRig = true ∧
      (sent false false).transceiver.sending = some { note, start := 0, judged := false } ∧
      (sent false false).transceiver.windowOpen = true ∧ left.ticking = true ∧ left.transceiver.windowOpen = false ∧
      left.transceiver.parting = some note ∧ left.transceiver.windowStart = some 0 := by decide +kernel
theorem witness_WindowEndHandsOverTheList :
    let s : State := { windowed (active .holding) with roster := { members := [member] } }
    let met (x : State) : State :=
      { x with barrier := { x.barrier with minTimeDone := true, exposuresDone := true, strobesDone := true } }
    let leaving : State := met (windowed (inRig .leaving .holding))
    s.ticking = true ∧ s.transceiver.windowOpen = true ∧ s.endFault = none ∧ s.membership.state ≠ .leaving ∧
      s.barrier.minTimeDone = false ∧ (met s).endFault = none ∧ (met s).barrier.phase = .holding ∧
      (met s).membership.state.participant = true ∧ (met s).barrier.minTimeDone = true ∧
      leaving.transceiver.windowOpen = true ∧ leaving.endFault = none ∧ leaving.membership.state = .leaving ∧
      leaving.barrier.phase = .holding ∧ leaving.membership.state.participant = true ∧
      s.roster.entry 2 = some member ∧ member.expected = true ∧ (s.outcomeOf 2).isValid = false ∧
      min s.prof.missLimit (member.misses + 1) = s.prof.missLimit ∧ member.removal = .none ∧
      ({ s with roster := { members := [{ member with removal := .left }] } } : State).roster.entry 2 =
        some { member with removal := .left } ∧
      s.membership.state.judgesSplit = true ∧ (inRig .listening .watching).membership.state.judgesSplit = false ∧
      (windowed (inRig .listening .watching)).endFault = none ∧ s.rosterAscending = true ∧ s.lostMembers = [2] ∧
      (hearing 2 (.valid note) s).entering = [(2, note.claims)] ∧ s.adoption = .none ∧ s.epochs.announced = false := by
  decide +kernel
theorem witness_WindowEndSlipsYieldsOrDetaches :
    let ahead : Note := { note with index := 0, frame := 9 }
    let slip : State := hearing 0 (.slip ahead) (windowed (active .holding))
    let founder : State :=
      hearing 2 (.slip { note with frame := 9, epoch := 4 })
        { windowed (inRig .flushing .holding) with membership := { state := .flushing, founder := true } }
    let split : State :=
      hearing 2 (.valid { note with epoch := 5 })
        { windowed (active .holding) with roster := { members := [member], settled := 4 } }
    let behind : State := hearing 2 (.slip { note with frame := 9 }) (windowed (active .holding))
    let late : State := hearing 2 (.valid { note with epoch := -1, catchup := true }) split
    let quiet : State := { windowed (inRig .listening .watching) with membership := { state := .listening, quiet := 3 } }
    slip.ticking = true ∧ slip.transceiver.windowOpen = true ∧ slip.membership.state = .active ∧
      slip.membership.founder = false ∧ slip.outcomeOf 0 = .slip ahead ∧ ahead.kind = .status ∧
      slip.heardNotes = [ahead] ∧ (9 : FrameNo) ≠ slip.barrier.frameNo ∧ ahead.index < slip.prof.index ∧
      slip.endFault = none ∧ slip.adoption = .slip 9 ∧ slip.membership.state ≠ .leaving ∧
      slip.membership.state.participant = true ∧ slip.epochs.announced = false ∧ founder.transceiver.windowOpen = true ∧
      founder.membership.state = .flushing ∧ founder.membership.founder = true ∧
      founder.heardNotes = [{ note with frame := 9, epoch := 4 }] ∧ founder.adoption = .yield 9 4 ∧
      split.membership.state = .active ∧ split.outcomeOf 2 = .valid { note with epoch := 5 } ∧
      split.roster.settled.getLsbD 2 = true ∧ split.adoption = .none ∧ split.endFault = some .epochSplit ∧
      quiet.endFault = some .noNotes ∧ behind.adoption = .none ∧ behind.endFault = none ∧ late.endFault = none ∧
      ({ quiet with transceiver := { quiet.transceiver with foreignSet := 4 } } : State).endFault = some .profileMismatch ∧
      (hearing 2 (.valid note) (windowed (inRig .listening .watching))).adoption = .listening 7 0 := by decide +kernel
theorem witness_FrameRecordsReportTheFrame :
    let under (policy : Policy) (c : Content) : State :=
      { active .holding with profile := some { profile with policy }, cursor := { current := some c } }
    (under .all .idle).prof.policy = .all ∧ (under .exceptions .idle).prof.policy = .exceptions ∧
      ((under .exceptions .idle).frameReport false).outcome ≠ .exposed ∧
      (under .exceptions (.apply 0)).frameRecord false = [] ∧
      (under .exceptions (.apply 0)).cursor.current = some (.apply 0) ∧
      (under .all (.flush 0)).cursor.current = some (.flush 0) ∧
      (under .all (.settle 0)).cursor.current = some (.settle 0) ∧
      (under .all .parked).cursor.current = some .parked ∧ (under .all .abstain).cursor.current = some .abstain := by
  decide +kernel
theorem witness_WindowEndsTurnTheEpochUnit :
    let s : State :=
      hearing 1 (.ownOk { note with index := 1 }) (hearing 2 (.valid note)
        { windowed (active .holding) with
          roster := { members := [member], required := 4, settled := 4 }
          epochs := { ready := some .keep, announced := true } })
    let alone : State := { s with roster := { members := [member], required := 8 } }
    let deaf : State := hearing 2 .silent s
    let newer (turn : TurnState) (newcomer : Bool) : State :=
      hearing 2 (.valid { note with epoch := 1 }) { s with epochs := { turn, newcomer } }
    let unsaid : State := { s with epochs := { ready := some .keep, deferred := true } }
    let flushing (newcomer : Bool) : State :=
      hearing 2 (.valid { note with epoch := 1 })
        { windowed (inRig .flushing .holding) with epochs := { newcomer, ready := some .keep, deferred := true } }
    let listener : State := hearing 2 (.valid { note with epoch := 3 }) (windowed (inRig .listening .watching))
    let founder : State :=
      hearing 2 (.slip { note with frame := 9, epoch := 4 })
        { windowed (inRig .flushing .holding) with membership := { state := .flushing, founder := true } }
    let leaving : State := windowed (inRig .leaving .holding)
    s.ticking = true ∧ s.transceiver.windowOpen = true ∧ s.endFault = none ∧ s.membership.state = .active ∧
      s.epochs.turn = .idle ∧ s.epochs.announced = true ∧ s.epochs.newcomer = false ∧ s.completeView = true ∧
      s.allReady = true ∧ alone.endFault = none ∧ alone.completeView = true ∧ alone.allReady = false ∧
      deaf.endFault = none ∧ deaf.completeView = false ∧ (newer .catchingUp false).endFault = none ∧
      (newer .catchingUp false).oneAheadHeard = true ∧ ({ s with epochs := { turn := .catchingUp } } : State).endFault = none ∧
      ({ s with epochs := { turn := .catchingUp } } : State).oneAheadHeard = false ∧ (newer .idle true).endFault = none ∧
      (newer .idle true).adoptsEpoch = true ∧ (flushing true).transceiver.windowOpen = true ∧
      (flushing true).membership.state ≠ .active ∧ (flushing true).endFault = none ∧
      (flushing true).adoption = .none ∧ (flushing true).outcomeOf 2 = .valid { note with epoch := 1 } ∧
      (flushing true).epochs.turn ≠ .catchingUp ∧ (run [.windowEnd] (flushing true)).epochs.epoch = 1 ∧
      (run [.windowEnd] (flushing false)).epochs.epoch = 0 ∧ (flushing false).endFault = none ∧
      (run [.windowEnd] (flushing false)).epochs.newcomer = true ∧ listener.endFault = none ∧
      listener.adoption = .listening 7 3 ∧ founder.endFault = none ∧ founder.adoption = .yield 9 4 ∧
      leaving.endFault = none ∧ leaving.membership.state = .leaving ∧ leaving.barrier.minTimeDone = false ∧
      (run [.windowEnd] leaving).epochs.newcomer = false ∧ unsaid.endFault = none ∧ unsaid.epochs.turn = .idle ∧
      unsaid.epochs.announced = false ∧ unsaid.completeView = true ∧ unsaid.allReady = true ∧
      (run [.windowEnd] unsaid).epochs.turn = .idle ∧ (run [.windowEnd] unsaid).epochs.ready = none := by decide +kernel
theorem witness_ListenersAdoptOrDetachAtTheWindowEnd :
    let s : State := windowed (inRig .listening .watching)
    let heard : State := hearing 2 (.valid note) s
    let mixed : State := hearing 3 (.valid { note with index := 3, frame := 9 }) heard
    let slipping : State := { heard with membership := { state := .listening, adopted := some 7 } }
    s.ticking = true ∧ s.transceiver.windowOpen = true ∧ s.membership.state = .listening ∧ s.validNotes = [] ∧
      s.membership.quiet < 3 ∧
      3 ≤ ({ s with membership := { state := .listening, quiet := 3 } } : State).membership.quiet ∧
      heard.outcomeOf 2 = .valid note ∧ heard.validNotes = [note] ∧ heard.membership.adopted = none ∧
      mixed.outcomeOf 2 = .valid note ∧ mixed.outcomeOf 3 = .valid { note with index := 3, frame := 9 } ∧
      slipping.membership.adopted = some 7 ∧ slipping.outcomeOf 2 = .valid note ∧ slipping.adoption = .none ∧
      (hearing 0 (.slip { note with index := 0, frame := 9 }) { slipping with transceiver := s.transceiver }).adoption =
        .slip 9 := by decide +kernel
theorem witness_LanesGoToTheHighestClaimantByTheTieBreak :
    let entering : Entering := [(0, [{ lane := 7, priority := 1 }]), (2, note.claims), (3, [{ lane := 7, priority := 3 }])]
    (3 : Nat) < 4 ∧ (entering.map fun e => e.1).Nodup ∧
      (∀ e ∈ entering, e.1.val < 4 ∧ (e.2.map fun c => c.lane).Nodup) ∧
      (laneEntry 4 3 entering 7).winner = some (3, 3) ∧ (laneEntry 4 0 entering 7).winner = some (2, 3) ∧
      (laneEntry 4 0 entering 0).winner = none := by decide +kernel

/-! ## Witnesses: exposures, strobes, the release -/

theorem witness_ExposuresFollowTheirSchedule :
    let s := inFrame id { schedule := [(300, 2300), (2700, 4700)] }
    let later := inFrame id { schedule := [(300, 2300), (2700, 4700)], started := 1 }
    let running (n : Nat) := inFrame id { schedule := [(300, 2300), (2700, 4700)], started := n, xtrig := true }
    let waits (ref : Reference) (delay : Nat) : Generator :=
      { record := some { strobe 0 none ref .complete with delay }, decision := some .unarbitrated, phase := .wait }
    s.ticking = true ∧ s.frameOpen = true ∧ s.sequencer.skipAt = none ∧ s.sequencer.xtrig = false ∧
      s.sequencer.schedule[s.sequencer.started]? = some (300, 2300) ∧ s.sequencer.started = 0 ∧
      later.sequencer.schedule[later.sequencer.started]? = some (2700, 4700) ∧ later.sequencer.started ≠ 0 ∧
      s.barrier.exposuresDone = false ∧ (running 1).sequencer.xtrig = true ∧
      (running 1).sequencer.schedule[(running 1).sequencer.started - 1]? = some (300, 2300) ∧
      (running 1).sequencer.started ≠ (running 1).sequencer.schedule.length ∧
      (running 2).sequencer.started = (running 2).sequencer.schedule.length ∧
      ((s.setGenerator 0 (waits .firstExpose 0)).generators.get 0).phase = .wait ∧
      ((s.setGenerator 0 (waits .lastExposeEnd 1)).generators.get 0).phase = .wait ∧
      (inFrame id { headWord := some { mode := 1, code := 0, start := 0 } }).sequencer.headWord =
        some { mode := 1, code := 0, start := 0 } := by decide +kernel
theorem witness_TheLastConditionReleasesFrame :
    let b (last : Bool) (x : Barrier) : Barrier :=
      { x with windowDone := last, strobesDone := true, minTimeDone := true, minTimeDue := none }
    let m (last : Bool) (x : Barrier) : Barrier :=
      { x with windowDone := last, strobesDone := true, exposuresDone := true, minTimeDue := some 1500 }
    let q : Sequencer := { schedule := [(3, 4)], started := 1 }
    (inFrame (m true) q).ticking = true ∧ (inFrame (m true) q).barrier.phase = .holding ∧
      (inFrame (m true) q).barrier.minTimeDue.isSome = true ∧ (inFrame (m false) q).barrier.windowDone = false ∧
      (inFrame (b true) q).barrier.exposuresDone = false ∧ (inFrame (b true) q).cursor.current = some (.apply 0) ∧
      (inFrame (b true) q).sequencer.started = (inFrame (b true) q).sequencer.schedule.length ∧
      (inFrame (b true) q).sequencer.xtrig = false ∧ (inRig .leaving .holding).membership.state = .leaving ∧
      ({ inFrame (b true) q with cursor := { current := some (.settle 0) } } : State).cursor.current = some (.settle 0) ∧
      ({ active .released with barrier := { (active .released).barrier with pullDue := true } } : State).barrier.pullDue = true := by
  decide +kernel
theorem witness_StrobePhasesFollowTheirRecord :
    let s (phase : StrobePhase) (left : Nat) : State := (active .holding).setGenerator 0 (lit phase left .complete)
    let d : State := (inRig .leaving .draining).setGenerator 0 (lit .on 1 .complete)
    (s .on 1).ticking = true ∧ ((s .on 1).generators.get 0).phaseEnd = some 10 ∧
      ((s .on 1).generators.get 0).record = some (strobe 0 (some 3) .firstExpose .complete) ∧
      ((s .delay 2).generators.get 0).phase = .delay ∧ ((s .off 1).generators.get 0).phase = .off ∧
      ((s .on 1).generators.get 0).phase = .on ∧ (s .on 1).barrier.phase ≠ .draining ∧
      (s .on 1).barrier.strobesDone = false ∧ 0 < ((s .on 1).generators.get 0).pulsesLeft ∧
      ((s .on 0).generators.get 0).pulsesLeft = 0 ∧ ((s .on 0).generators.get 1).phase = .done ∧
      d.barrier.phase = .draining ∧ (d.generators.get 0).phase = .on ∧ (d.generators.get 1).phase ≠ .on ∧
      ((d.setGenerator 1 (lit .on 1 .complete)).generators.get 1).phase = .on := by decide +kernel

/-! ## Witnesses: timebase, log, invariants -/

theorem witness_TimebaseLossReturnAndSettling :
    let lost : State := { standby with timebase := { lost := true } }
    let frame : Record := { body := .frame ((active .holding).frameReport true), frame := 7, epoch := 0 }
    let fault : Record := { body := .fault .timebaseLost, frame := 7, epoch := 0 }
    let several : State :=
      { inRig .detached .dormant with
        timebase := { lost := true, deferredRecords := [frame, fault] }
        port := { waiting := [(.readLog, true), (.restart, false)] } }
    standby.timebase.lost = false ∧ standby.rstnLow = false ∧ State.reset.membership.state = .unconfigured ∧
      standby.membership.state = .standby ∧ (active .holding).membership.state.inRig = true ∧ lost.timebase.lost = true ∧
      lost.port.waiting = [] ∧ ({ standby with rstnLow := true } : State).timebase.lost = false ∧
      ({ standby with rstnLow := true } : State).rstnLow = true ∧ ({ lost with rstnLow := true } : State).rstnLow = true ∧
      isCommand .verify = true ∧ lost.timebase.deferredRecords = [] ∧
      ({ lost with port := { waiting := [(.verify, false)] } } : State).port.waiting = [(.verify, false)] ∧
      ({ standby with timebase := { lock := .settling, settle := 2000 } } : State).ticking = true ∧
      ({ standby with timebase := { lock := .settling, settle := 2000 } } : State).timebase.settle ≤ 2000 ∧
      standby.timebase.lock ≠ .settling ∧ several.timebase.lost = true ∧ several.rstnLow = false ∧
      several.port.waiting = [(.readLog, true), (.restart, false)] ∧
      several.timebase.deferredRecords = [frame, fault] ∧ isCommand .readLog = true ∧ isCommand .restart = true := by
  decide +kernel
theorem witness_AppendsKeepTheNewestRecordsAndCountTheRest :
    let r : Record := { body := .stall, frame := 0, epoch := 0 }
    let full (gap : Nat) : StationLog := { queue := r :: List.replicate 63 r, gap }
    (full 65534).queue.length = 64 ∧ (full 65534).gap < 65535 ∧ (full 65535).gap = 65535 ∧
      ({ queue := List.replicate 63 r } : StationLog).queue.length < 64 ∧
      (full 65534).queue = r :: List.replicate 63 r := by decide +kernel
theorem witness_EveryStepKeepsTheBlocksInOrder : standby.inOrder = true ∧ State.reset.inOrder = true := by decide +kernel
theorem witness_EveryStepKeepsLightLanesLawful :
    let s : State :=
      { (active .holding).setGenerator 0 (lit .on 1 .complete) with resolver := { inUse := 8 } }
    s.inOrder = true ∧ s.lanesLawful = true ∧ s.drivesLane 3 = true := by decide +kernel
theorem witness_EveryStepKeepsLogAndRosterInForm :
    standby.log.bounded = true ∧ ({ standby with roster := { members := [member] } } : State).rosterAscending = true := by
  decide +kernel

end Sys2Proof.Machine.Tests
end

section
/-! SUPPORT. The agreement of the blocks, relation by relation: what it says of a state, and that the shared operations
keep it. -/

namespace Sys2Proof.Machine

/-! ### The relations as propositions -/

theorem State.numberFits_iff (s : State) :
    s.numberFits = true ↔ (s.hasNumber = false → s.barrier.frameNo = 0) := by
  simp [State.numberFits, or_iff_not_imp_left]

theorem State.faultFits_iff (s : State) :
    s.faultFits = true ↔ (s.membership.fault.isSome = true ↔ s.membership.state = .detached) := by
  rw [State.faultFits, beq_iff_eq, Bool.eq_iff_iff, beq_iff_eq]

theorem State.profileFits_iff (s : State) :
    s.profileFits = true ↔ (s.profile.isSome = true ↔ s.membership.state ≠ .unconfigured) := by
  rw [State.profileFits, beq_iff_eq, Bool.eq_iff_iff, bne_iff_ne]

theorem State.leaveFits_iff (s : State) :
    s.leaveFits = true ↔
      s.membership.pendingLeave = none ∨ s.membership.state = .flushing ∨ s.membership.state = .active := by
  simp [State.leaveFits, or_assoc]

theorem State.adoptionFits_iff (s : State) :
    s.adoptionFits = true ↔ (s.membership.state ≠ .listening → s.membership.adopted = none) := by
  simp [State.adoptionFits, or_comm, or_iff_not_imp_left]

theorem State.readyFits_iff (s : State) :
    s.readyFits = true ↔ (s.membership.state ≠ .active → s.epochs.ready = none) := by
  simp [State.readyFits, or_comm, or_iff_not_imp_left]

theorem State.outputsFit_iff (s : State) :
    s.outputsFit = true ↔ (s.membership.state.participant = false →
      s.sequencer.xtrig = false ∧ s.sequencer.headWord = none ∧ allSettled s.generators = true) := by
  simp [State.outputsFit, or_iff_not_imp_left, and_assoc]

theorem State.rigFits_iff (s : State) :
    s.rigFits = true ↔ (s.membership.state.inRig = false →
      s.roster.members = [] ∧ s.transceiver.windowOpen = false ∧ s.epochs.epoch = 0) := by
  simp [State.rigFits, or_iff_not_imp_left, and_assoc]

theorem State.tableFits_iff (s : State) :
    s.tableFits = true ↔ (s.membership.state.judgesSplit = false → s.resolver.table = none) := by
  simp [State.tableFits, or_iff_not_imp_right]

theorem State.cursorFits_iff (s : State) :
    s.cursorFits = true ↔ (s.membership.state.participant = false → s.cursor.segment = none) := by
  simp [State.cursorFits, or_iff_not_imp_right]

theorem State.timebaseFits_iff (s : State) :
    s.timebaseFits = true ↔
      s.timebase.settle ≤ Config.settleTicks ∧
      (s.timebase.lock = .unlocked → s.timebase.settle = 0) ∧
      (s.membership.state = .unconfigured →
        s.timebase.lock = .unlocked ∧ s.timebase.divider = Config.resetDivider) ∧
      (s.timebase.lost = true → s.timebase.lock = .unlocked) ∧
      (s.timebase.lost = false → s.timebase.deferredRecords = [] ∧ s.port.waiting = []) ∧
      (s.rstnLow = true → s.membership.state = .unconfigured ∧ s.port.waiting = []) := by
  simp only [State.timebaseFits, Bool.and_eq_true, Bool.or_eq_true, Bool.not_eq_true', decide_eq_true_eq, bne_iff_ne,
    beq_iff_eq, List.isEmpty_iff, ← Bool.not_eq_true, imp_iff_not_or, and_assoc]
  simp

/-- The agreement of the blocks (`State.inOrder`) with its relations named. -/
structure InOrder (s : State) : Prop where
  phase : s.phaseFits = true
  pull : s.barrier.pulled = s.barrier.phase.pulls
  number : s.hasNumber = false → s.barrier.frameNo = 0
  fault : s.membership.fault.isSome = true ↔ s.membership.state = .detached
  profile : s.profile.isSome = true ↔ s.membership.state ≠ .unconfigured
  join : s.membership.joinSegment.isSome = s.membership.state.inRig
  leave : s.membership.pendingLeave = none ∨ s.membership.state = .flushing ∨ s.membership.state = .active
  adoption : s.membership.state ≠ .listening → s.membership.adopted = none
  ready : s.membership.state ≠ .active → s.epochs.ready = none
  outputs : s.membership.state.participant = false →
    s.sequencer.xtrig = false ∧ s.sequencer.headWord = none ∧ allSettled s.generators = true
  rig : s.membership.state.inRig = false →
    s.roster.members = [] ∧ s.transceiver.windowOpen = false ∧ s.epochs.epoch = 0
  table : s.membership.state.judgesSplit = false → s.resolver.table = none
  cursor : s.membership.state.participant = false → s.cursor.segment = none
  settle : s.timebase.settle ≤ Config.settleTicks
  unlocked : s.timebase.lock = .unlocked → s.timebase.settle = 0
  divider : s.membership.state = .unconfigured →
    s.timebase.lock = .unlocked ∧ s.timebase.divider = Config.resetDivider
  lost : s.timebase.lost = true → s.timebase.lock = .unlocked
  waits : s.timebase.lost = false → s.timebase.deferredRecords = [] ∧ s.port.waiting = []
  held : s.rstnLow = true → s.membership.state = .unconfigured ∧ s.port.waiting = []

theorem State.inOrder_iff (s : State) : s.inOrder = true ↔ InOrder s := by
  simp only [State.inOrder, State.barrierInOrder, State.membershipInOrder, State.blocksInOrder, Bool.and_eq_true,
    State.numberFits_iff, State.faultFits_iff, State.profileFits_iff, State.leaveFits_iff, State.adoptionFits_iff,
    State.readyFits_iff, State.outputsFit_iff, State.rigFits_iff, State.tableFits_iff, State.cursorFits_iff,
    State.timebaseFits_iff, State.pullFits, State.joinFits, beq_iff_eq, and_assoc]
  exact
    ⟨fun ⟨h1, h2, h3, h4, h5, h6, h7, h8, h9, h10, h11, h12, h13, h14, h15, h16, h17, h18, h19⟩ =>
      ⟨h1, h2, h3, h4, h5, h6, h7, h8, h9, h10, h11, h12, h13, h14, h15, h16, h17, h18, h19⟩,
    fun ⟨h1, h2, h3, h4, h5, h6, h7, h8, h9, h10, h11, h12, h13, h14, h15, h16, h17, h18, h19⟩ =>
      ⟨h1, h2, h3, h4, h5, h6, h7, h8, h9, h10, h11, h12, h13, h14, h15, h16, h17, h18, h19⟩⟩

/-! ### Station states -/

/-- The participants by name. -/
theorem StationState.participant_iff (x : StationState) :
    x.participant = true ↔ x = .flushing ∨ x = .active ∨ x = .leaving := by
  cases x <;> decide

/-- The rig states by name. -/
theorem StationState.inRig_iff (x : StationState) :
    x.inRig = true ↔
      x = .listening ∨ x = .founding ∨ x = .joining ∨ x = .flushing ∨ x = .active ∨ x = .leaving := by
  cases x <;> decide

/-- The states that hold a grant table and judge notes for a split, by name. -/
theorem StationState.judgesSplit_iff (x : StationState) :
    x.judgesSplit = true ↔ x = .joining ∨ x = .flushing ∨ x = .active ∨ x = .leaving := by
  cases x <;> decide

theorem StationState.inRig_of_participant {x : StationState} (h : x.participant = true) : x.inRig = true := by
  cases x <;> revert h <;> decide

theorem StationState.judgesSplit_of_participant {x : StationState} (h : x.participant = true) :
    x.judgesSplit = true := by
  cases x <;> revert h <;> decide

theorem StationState.ne_unconfigured_of_inRig {x : StationState} (h : x.inRig = true) : x ≠ .unconfigured := by
  rintro rfl; cases h

theorem StationState.ne_detached_of_inRig {x : StationState} (h : x.inRig = true) : x ≠ .detached := by
  rintro rfl; cases h

theorem StationState.ne_listening_of_participant {x : StationState} (h : x.participant = true) : x ≠ .listening := by
  rintro rfl; cases h

/-- Which stations have a current frame number (R32). -/
theorem State.hasNumber_iff (s : State) :
    s.hasNumber = true ↔
      s.membership.state.judgesSplit = true ∨ s.membership.state = .listening ∧ s.membership.adopted.isSome = true := by
  unfold State.hasNumber
  cases s.membership.state <;> simp [StationState.judgesSplit]

/-- A participant always has one. -/
theorem State.hasNumber_of_participant {s : State} (h : s.membership.state.participant = true) : s.hasNumber = true :=
  s.hasNumber_iff.2 (.inl (StationState.judgesSplit_of_participant h))

namespace InOrder
variable {s : State}

/-! ### What the agreement says -/

/-- Outside the rig the barrier unit rests. -/
theorem dormant (h : InOrder s) (hr : s.membership.state.inRig = false) :
    s.barrier.phase = .dormant ∧ s.barrier.pullDue = false := by
  have hp := h.phase
  have hnot : s.membership.state.participant = false := by
    cases hs : s.membership.state.participant
    · rfl
    · rw [StationState.inRig_of_participant hs] at hr; cases hr
  have hne (x : StationState) (hx : x.inRig = true) : s.membership.state ≠ x := by rintro rfl; rw [hx] at hr; cases hr
  unfold State.phaseFits at hp
  cases hb : s.barrier.phase <;>
    simp [hb, hr, hnot, hne .listening rfl, hne .joining rfl, hne .founding rfl, hne .leaving rfl] at hp ⊢
  exact hp

/-- In the rig the barrier unit does not rest. -/
theorem inRig_of_phase (h : InOrder s) (hb : s.barrier.phase ≠ .dormant) : s.membership.state.inRig = true := by
  cases hr : s.membership.state.inRig
  · exact absurd (h.dormant hr).1 hb
  · rfl

/-- A pull is due only at a participant that stands where the mark found it (R5). -/
theorem pullDue_phase (h : InOrder s) (hd : s.barrier.pullDue = true) :
    s.membership.state.participant = true ∧ (s.barrier.phase = .watching ∨ s.barrier.phase = .released) := by
  have hp := h.phase
  unfold State.phaseFits at hp
  cases hb : s.barrier.phase <;> simp_all

/-- The phases of a participant's frame. -/
theorem participant_of_phase (h : InOrder s)
    (hb : s.barrier.phase = .holding ∨ s.barrier.phase = .draining ∨ s.barrier.phase = .released) :
    s.membership.state.participant = true := by
  have hp := h.phase
  unfold State.phaseFits at hp
  rcases hb with hb | hb | hb <;> simp only [hb, Bool.and_eq_true, beq_iff_eq] at hp
  · exact hp.1
  · rw [hp.1]; rfl
  · exact hp

/-- A held frame belongs to a participant (R5, R8). -/
theorem participant_of_frameOpen (h : InOrder s) (ho : s.frameOpen = true) : s.membership.state.participant = true := by
  simp only [State.frameOpen, Bool.or_eq_true, beq_iff_eq] at ho
  rcases ho with hb | hd
  · exact h.participant_of_phase (.inl hb)
  · exact (h.pullDue_phase hd).1

/-- A window is open only in the rig (R24). -/
theorem inRig_of_window (h : InOrder s) (hw : s.transceiver.windowOpen = true) : s.membership.state.inRig = true := by
  cases hr : s.membership.state.inRig
  · rw [(h.rig hr).2.1] at hw; cases hw
  · rfl

/-- XTRIG is high only at a participant (R146). -/
theorem participant_of_xtrig (h : InOrder s) (hx : s.sequencer.xtrig = true) : s.membership.state.participant = true := by
  cases hp : s.membership.state.participant
  · rw [(h.outputs hp).1] at hx; cases hx
  · rfl

/-- A strobe program runs only at a participant (R155). -/
theorem participant_of_running (h : InOrder s) {c : Fin 4} (hc : (s.generators.get c).settled = false) :
    s.membership.state.participant = true := by
  cases hp : s.membership.state.participant
  · rw [(allSettled_iff _).1 (h.outputs hp).2.2 c] at hc; cases hc
  · rfl

/-- Outside the rig no frame number is held (R4). -/
theorem frameNo_of_not_inRig (h : InOrder s) (hr : s.membership.state.inRig = false) : s.barrier.frameNo = 0 := by
  refine h.number ?_
  unfold State.hasNumber
  cases hs : s.membership.state <;> rw [hs] at hr <;> first | rfl | cases hr

/-! ### Operations that no relation speaks of -/

theorem logChains (h : InOrder s) (chains : List (List Record)) : InOrder (s.logChains chains) := { h with }

theorem queue (h : InOrder s) (rest : List Instr) : InOrder { s with pending := rest } := { h with }

theorem replyWith (h : InOrder s) (code : ResultCode) (data : List Byte) : InOrder (s.replyWith code data) := { h with }

theorem reply (h : InOrder s) (code : ResultCode) : InOrder (s.reply code) := h.replyWith code []

theorem setLookahead (h : InOrder s) (content : Content) : InOrder (s.setLookahead content) := { h with }

theorem concludeSlot (h : InOrder s) (slot : Fin 16) (o : SlotOutcome) : InOrder (s.concludeSlot slot o) := by
  unfold State.concludeSlot; split
  · exact { h with }
  · exact h

/-! ### Time -/

/-- Time moves the settle count up to its end, and at 0 while the timebase is unlocked. -/
theorem elapse (h : InOrder s) (k : Nat) : InOrder (s.elapse k) :=
  { h with
    phase := by simpa [State.phaseFits] using h.phase
    pull := by simpa using h.pull
    number := by
      rw [State.elapse_barrier, Barrier.elapse_frameNo]
      exact h.number
    settle := by
      simp only [State.elapse]
      split
      · exact Nat.min_le_left _ _
      · exact h.settle
    unlocked := by
      intro hu
      rw [State.elapse_lock] at hu
      simpa [State.elapse, hu] using h.unlocked hu
    divider := by
      intro hs
      rw [State.elapse_timebase_frame]
      exact h.divider hs
    lost := by simpa using h.lost
    waits := by
      rw [State.elapse_timebase_frame]
      exact h.waits }

theorem advanceTo (h : InOrder s) (t : Nat) : InOrder (s.advanceTo t) := h.elapse _

/-- What the agreement and every effect in order keep, the guarded event keeps. -/
theorem onTick (h : InOrder s) {f : State → State} (hf : InOrder (f s)) : InOrder (s.onTick f) :=
  State.onTick_elim h hf

/-! ### Leaving the rig -/

/-- The clearing of the rig blocks leads to a resting station in order. -/
theorem clearRig (h : InOrder s) {target : StationState} {cause : Option FaultCause} (keep : Bool)
    (hr : target.inRig = false) (hf : cause.isSome = true ↔ target = .detached)
    (hu : target = .unconfigured ↔ s.membership.state = .unconfigured) :
    InOrder (s.clearRig target cause keep) where
  phase := by simp [State.phaseFits, State.clearRig, hr]
  pull := rfl
  number := fun _ => rfl
  fault := hf
  profile := h.profile.trans (not_congr hu.symm)
  join := hr.symm
  leave := .inl rfl
  adoption := fun _ => rfl
  ready := fun _ => rfl
  outputs := fun _ => ⟨rfl, rfl, by rw [State.clearRig_generators]; decide⟩
  rig := fun _ => ⟨rfl, by cases keep <;> rfl, rfl⟩
  table := fun _ => rfl
  cursor := fun _ => rfl
  settle := h.settle
  unlocked := h.unlocked
  divider := fun e => h.divider (hu.1 e)
  lost := h.lost
  waits := h.waits
  held := fun e => ⟨hu.2 (h.held e).1, (h.held e).2⟩

theorem enterStandby (h : InOrder s) (hr : s.membership.state.inRig = true) (frame : Option Bool)
    (chains : List (List Record)) : InOrder (s.enterStandby frame chains) :=
  (h.clearRig true rfl (by simp) (by simp [StationState.ne_unconfigured_of_inRig hr])).logChains _

theorem detach (h : InOrder s) (cause : FaultCause) (chains : List (List Record)) : InOrder (s.detach cause chains) := by
  rcases State.detach_eq cause chains s with ⟨hr, e⟩ | ⟨-, e⟩ <;> rw [e]
  · exact (h.clearRig false rfl (by simp) (by simp [StationState.ne_unconfigured_of_inRig hr])).logChains _
  · exact h.logChains _

/-- The release of FRAME at a participant (R8). -/
theorem releaseLine (h : InOrder s) (hp : s.membership.state.participant = true) : InOrder s.releaseLine :=
  { h with
    phase := hp
    pull := rfl }

theorem finish (h : InOrder s) (chains : List (List Record)) : InOrder (s.finish chains) := by
  rcases State.finish_cases chains s with ⟨-, -, hl, e⟩ | ⟨hb, -, -, e⟩ | ⟨-, e⟩ <;> rw [e]
  · exact h.enterStandby (by rw [hl]; rfl) _ _
  · exact (h.releaseLine (h.participant_of_phase (.inl hb))).logChains _
  · exact h.logChains _

theorem finishDrain (h : InOrder s) (hr : s.membership.state.inRig = true) : InOrder s.finishDrain := by
  rcases State.finishDrain_cases s with ⟨-, e⟩ | ⟨-, e⟩ <;> rw [e]
  · exact h
  · exact h.enterStandby hr _ _

/-! ### A participant's lines -/

/-- Of a participant's outputs nothing is asked. -/
theorem outputs_of_participant {t : State} {p : Prop} (hp : t.membership.state.participant = true) :
    t.membership.state.participant = false → p := fun e => by rw [hp] at e; cases e

/-- A participant's generators may be in any phase. -/
theorem generators (h : InOrder s) (hp : s.membership.state.participant = true) (gens : Vector Generator 4) :
    InOrder { s with generators := gens } := { h with outputs := outputs_of_participant hp }

theorem setGenerator (h : InOrder s) (hp : s.membership.state.participant = true) (c : Fin 4) (g : Generator) :
    InOrder (s.setGenerator c g) := h.generators hp _

theorem mapGenerators (h : InOrder s) (hp : s.membership.state.participant = true) (f : Generator → Generator) :
    InOrder (s.mapGenerators f) := h.generators hp _

theorem reportStrobes (h : InOrder s) : InOrder s.reportStrobes := { h with }

theorem stopSequencer (h : InOrder s) (hp : s.membership.state.participant = true) : InOrder s.stopSequencer :=
  { h with outputs := outputs_of_participant hp }

/-- A participant that becomes LEAVING with its frame as it is (R87). -/
theorem becomeLeaving (h : InOrder s) (hp : s.membership.state.participant = true) : InOrder s.becomeLeaving := by
  have hr := StationState.inRig_of_participant hp
  have phase : s.becomeLeaving.phaseFits = true := by
    have hph := h.phase
    unfold State.phaseFits at hph ⊢
    simp only [State.becomeLeaving_barrier, State.becomeLeaving_state]
    rcases (StationState.participant_iff _).1 hp with e | e | e <;> rw [e] at hph <;>
      cases hb : s.barrier.phase <;> simp [hb, StationState.inRig, StationState.participant] at hph ⊢ <;> simp [hph]
  exact
    { phase
      pull := h.pull
      number := fun e => by cases e
      fault := by
        rw [State.becomeLeaving_fault, State.becomeLeaving_state, h.fault]
        simp [StationState.ne_detached_of_inRig hr]
      profile := h.profile.trans (by simp [StationState.ne_unconfigured_of_inRig hr])
      join := h.join.trans hr
      leave := .inl rfl
      adoption := fun _ => h.adoption (StationState.ne_listening_of_participant hp)
      ready := fun _ => rfl
      outputs := fun e => by cases e
      rig := fun e => by cases e
      table := fun e => by cases e
      cursor := fun e => by cases e
      settle := h.settle
      unlocked := h.unlocked
      divider := fun e => by cases e
      lost := h.lost
      waits := h.waits
      held := fun e => absurd (h.held e).1 (StationState.ne_unconfigured_of_inRig hr) }

end InOrder
end Sys2Proof.Machine
end

section
/-! SUPPORT. Every command and event keeps the blocks in agreement (the commands and the events of the timers and of NOTE). -/

namespace Sys2Proof.Machine
namespace InOrder
variable {s : State}

/-! ### The frame -/

theorem forcedRelease (h : InOrder s) (hb : s.barrier.phase = .holding ∨ s.barrier.phase = .draining) :
    InOrder s.forcedRelease := by
  have hp : s.membership.state.participant = true := h.participant_of_phase (by tauto)
  have hr := StationState.inRig_of_participant hp
  have cut : InOrder
      { s.cutGenerators.stopSequencer with barrier := { s.cutGenerators.stopSequencer.barrier with late := true } } :=
    { (h.mapGenerators hp Generator.cutNow).stopSequencer hp with }
  unfold State.forcedRelease State.releaseFrame
  simp only
  split
  · exact cut.enterStandby hr _ _
  · split
    · exact cut.enterStandby hr _ _
    · exact (cut.releaseLine hp).logChains _

theorem minFrameTimeElapsed (h : InOrder s) : InOrder (minFrameTimeElapsedEffect s) := by
  unfold minFrameTimeElapsedEffect
  split
  · split
    · refine InOrder.finish ?_ []
      exact { h.advanceTo _ with }
    · exact h
  · exact h

theorem holdLimitExpiry (h : InOrder s) : InOrder (holdLimitExpiryEffect s) := by
  unfold holdLimitExpiryEffect
  split
  · split
    · next hb => exact (h.advanceTo _).forcedRelease (by simpa using hb)
    · exact h
  · exact h

/-- A participant whose pull is due pulls FRAME in HOLDING (R5). -/
theorem participantPull (h : InOrder s) : InOrder (participantPullEffect s) := by
  unfold participantPullEffect
  split
  · next hd =>
    exact
      { h.advanceTo (s.barrier.markTick + 1) with
        phase := by simpa [State.phaseFits] using (h.pullDue_phase hd).1
        pull := rfl }
  · exact h

theorem stallTimerExpiry (h : InOrder s) : InOrder (stallTimerExpiryEffect s) := by
  unfold stallTimerExpiryEffect
  split
  · split
    · refine InOrder.logChains ?_ _
      exact { h.advanceTo _ with }
    · exact h
  · exact h

/-- A listener that founds pulls FRAME in PULSING and holds no member and no epoch (R15, R41, R79). -/
theorem found (h : InOrder s) (hl : s.membership.state = .listening) : InOrder s.found := by
  have hd : s.barrier.pullDue = false := by
    cases hd : s.barrier.pullDue
    · rfl
    · have := (h.pullDue_phase hd).1; rw [hl] at this; cases this
  exact
    { h with
      phase := by simp [State.phaseFits, State.found, hd]
      pull := rfl
      number := fun _ => rfl
      fault := by have := h.fault; rw [hl] at this; simpa [State.found] using this
      profile := h.profile.trans (by simp [State.found, hl])
      join := h.join.trans (by rw [hl]; rfl)
      leave := by have := h.leave; rw [hl] at this; simpa [State.found] using this
      adoption := fun _ => rfl
      ready := fun _ => h.ready (by rw [hl]; decide)
      outputs := fun _ => h.outputs (by rw [hl]; rfl)
      rig := fun e => by cases e
      table := fun _ => h.table (by rw [hl]; rfl)
      cursor := fun _ => h.cursor (by rw [hl]; rfl)
      divider := fun e => by cases e
      held := fun e => absurd (h.held e).1 (by rw [hl]; decide) }

theorem listenTimerExpiry (h : InOrder s) : InOrder (listenTimerExpiryEffect s) := by
  unfold listenTimerExpiryEffect
  split
  · split
    · next hl => exact (h.advanceTo _).found hl.1
    · exact h
  · exact h

theorem foundingPulseEnd (h : InOrder s) : InOrder (foundingPulseEndEffect s) := by
  unfold foundingPulseEndEffect
  split
  · split
    · next hb =>
      have hph := h.phase
      simp only [State.phaseFits, hb, Bool.and_eq_true, beq_iff_eq, Bool.not_eq_true'] at hph
      exact
        { h.advanceTo _ with
          phase := by simp [State.phaseFits, hph]
          pull := rfl }
    · exact h
  · exact h

/-! ### Exposures and strobes -/

theorem hcodeWordSent (h : InOrder s) : InOrder (hcodeWordSentEffect s) := by
  unfold hcodeWordSentEffect
  split
  · next w _ =>
    have hk := h.advanceTo (w.start + Config.headWordTicks)
    exact { hk with outputs := fun e => ⟨(hk.outputs e).1, rfl, (hk.outputs e).2.2⟩ }
  · exact h

theorem beginExposure (h : InOrder s) (hp : s.membership.state.participant = true) (t : Nat) :
    InOrder (s.beginExposure t) := by
  unfold State.beginExposure
  simp only
  split
  · exact { h with outputs := outputs_of_participant hp }
  · exact { h with outputs := outputs_of_participant hp }

theorem skipExposure (h : InOrder s) (hp : s.membership.state.participant = true) : InOrder s.skipExposure := by
  unfold State.skipExposure
  refine InOrder.finish ?_ []
  exact { h with outputs := outputs_of_participant hp }

theorem exposureStart (h : InOrder s) (hrdy : Bool) : InOrder (exposureStartEffect hrdy s) := by
  unfold exposureStartEffect
  split
  · next start _ hn =>
    have ho : s.frameOpen = true := by
      unfold State.nextExposure at hn
      split at hn
      · next hc => simp only [Bool.and_eq_true] at hc; exact hc.1.1
      · cases hn
    have hp := h.participant_of_frameOpen ho
    simp only
    split
    · exact (h.advanceTo start).beginExposure hp _
    · exact (h.advanceTo start).skipExposure hp
  · exact h

theorem exposureEnd (h : InOrder s) : InOrder (exposureEndEffect s) := by
  unfold exposureEndEffect
  split
  · next hn =>
    have hp : s.membership.state.participant = true := by
      refine h.participant_of_xtrig ?_
      unfold State.runningExposure at hn
      split at hn
      · assumption
      · cases hn
    simp only
    split
    · exact { h.advanceTo _ with outputs := outputs_of_participant hp }
    · exact { h.advanceTo _ with outputs := outputs_of_participant hp }
  · exact h

theorem exposuresEnded (h : InOrder s) : InOrder (exposuresEndedEffect s) := by
  unfold exposuresEndedEffect
  split
  · refine InOrder.finish ?_ []
    exact { h with }
  · exact h

/-- A phase of a strobe program that ends belongs to a participant. -/
theorem participant_of_phaseEnd (h : InOrder s) {c : Fin 4} {x : StrobePhase} {t : Nat}
    (he : s.phaseEndOf c x = some t) (hd : x ≠ .done) (hc : x ≠ .cut) : s.membership.state.participant = true := by
  refine h.participant_of_running (c := c) ?_
  unfold State.phaseEndOf at he
  simp only at he
  split at he
  · next hx => simp [Generator.settled, hx, hd, hc]
  · cases he

theorem strobeDelayEnd (h : InOrder s) (c : Fin 4) : InOrder (strobeDelayEndEffect c s) := by
  unfold strobeDelayEndEffect
  split
  · next he => exact (h.advanceTo _).setGenerator (h.participant_of_phaseEnd he (by decide) (by decide)) _ _
  · exact h

theorem strobeOffEnd (h : InOrder s) (c : Fin 4) : InOrder (strobeOffEndEffect c s) := by
  unfold strobeOffEndEffect
  split
  · next he => exact (h.advanceTo _).setGenerator (h.participant_of_phaseEnd he (by decide) (by decide)) _ _
  · exact h

theorem strobeOnEnd (h : InOrder s) (c : Fin 4) : InOrder (strobeOnEndEffect c s) := by
  unfold strobeOnEndEffect
  split
  · next t he =>
    have hp := h.participant_of_phaseEnd he (by decide) (by decide)
    simp only
    split
    · exact ((h.advanceTo t).setGenerator hp _ _).finishDrain (StationState.inRig_of_participant hp)
    · exact ((h.advanceTo t).setGenerator hp _ _).reportStrobes.finish _
  · exact h

/-! ### The window end -/


end InOrder
end Sys2Proof.Machine
end

section
/-! SUPPORT. The window end, function by function: what the closed list says, which adoption it makes, and what the handoff
leaves of each block. -/

namespace Sys2Proof.Machine

/-! ### The notes of the closed list -/

theorem State.mem_validNotes {s : State} {n : Note} : n ∈ s.validNotes ↔ ∃ slot, s.outcomeOf slot = .valid n := by
  simp only [State.validNotes, List.mem_filterMap, List.mem_finRange, true_and]
  refine exists_congr fun slot => ?_
  cases s.outcomeOf slot <;> simp

theorem State.mem_heardNotes {s : State} {n : Note} :
    n ∈ s.heardNotes ↔ ∃ slot, s.outcomeOf slot = .valid n ∨ s.outcomeOf slot = .slip n := by
  simp only [State.heardNotes, List.mem_filterMap, List.mem_finRange, true_and]
  refine exists_congr fun slot => ?_
  cases s.outcomeOf slot <;> simp

theorem State.validNotes_isEmpty_iff (s : State) :
    s.validNotes.isEmpty = true ↔ ∀ slot n, s.outcomeOf slot ≠ .valid n := by
  rw [List.isEmpty_iff, List.eq_nil_iff_forall_not_mem]
  simp only [State.mem_validNotes, not_exists]
  exact forall_comm

/-- The value that a list which is not empty has in common. -/
theorem common_eq_some_iff {α β : Type} [DecidableEq β] (f : α → β) (l : List α) (v : β) :
    common f l = some v ↔ l ≠ [] ∧ ∀ x ∈ l, f x = v := by
  cases l with
  | nil => simp [common]
  | cons x rest =>
    by_cases h : ∀ y ∈ rest, f y = f x
    · have hall : (rest.all fun y => f y == f x) = true := by simpa using h
      simp only [common, hall, if_true, Option.some.injEq, ne_eq, reduceCtorEq, not_false_eq_true, true_and,
        List.forall_mem_cons]
      exact ⟨fun e => ⟨e, fun y hy => (h y hy).trans e⟩, fun e => e.1⟩
    · have hall : (rest.all fun y => f y == f x) = false := by simpa using h
      simp only [common, hall, ne_eq, reduceCtorEq, not_false_eq_true, true_and, List.forall_mem_cons,
        false_iff, not_and, Bool.false_eq_true, if_false]
      rintro e hv
      exact h fun y hy => (hv y hy).trans e.symm

theorem common_eq_none_of {α β : Type} [DecidableEq β] (f : α → β) {l : List α} {x y : α} (hx : x ∈ l) (hy : y ∈ l)
    (h : f x ≠ f y) : common f l = none := by
  refine Option.eq_none_iff_forall_ne_some.2 fun v hv => ?_
  obtain ⟨-, hall⟩ := (common_eq_some_iff f l v).1 hv
  exact h ((hall x hx).trans (hall y hy).symm)

/-! ### The adoption (R17 to R19, R49) -/

theorem State.listeningAdoption_cases (s : State) :
    s.listeningAdoption = .none ∨ ∃ f e, s.listeningAdoption = .listening f e := by
  unfold State.listeningAdoption
  split
  · split
    · exact .inr ⟨_, _, rfl⟩
    · exact .inl rfl
  · exact .inl rfl

theorem State.yieldAdoption_cases (s : State) : s.yieldAdoption = .none ∨ ∃ f e, s.yieldAdoption = .yield f e := by
  unfold State.yieldAdoption
  split
  · split
    · split
      · exact .inr ⟨_, _, rfl⟩
      · exact .inl rfl
    · exact .inl rfl
  · exact .inl rfl

theorem State.slipAdoption_cases (s : State) : s.slipAdoption = .none ∨ ∃ f, s.slipAdoption = .slip f := by
  unfold State.slipAdoption
  split
  · simp only
    split
    · split
      · exact .inr ⟨_, rfl⟩
      · exact .inl rfl
    · exact .inl rfl
  · exact .inl rfl

/-- A listener without a number adopts what all its VALID notes carry (R17). -/
theorem State.listeningAdoption_iff (s : State) (f : FrameNo) (e : EpochNo) :
    s.listeningAdoption = .listening f e ↔
      s.membership.state = .listening ∧ s.membership.adopted = none ∧
        s.validNotes ≠ [] ∧ ∀ n ∈ s.validNotes, n.frame = f ∧ n.epoch = e := by
  have hc := common_eq_some_iff (fun n : Note => (n.frame, n.epoch)) s.validNotes (f, e)
  simp only [Prod.mk.injEq] at hc
  rw [← hc]
  unfold State.listeningAdoption
  by_cases h : s.membership.state = .listening ∧ s.membership.adopted = none
  · rw [if_pos h]
    cases hv : common (fun n => (n.frame, n.epoch)) s.validNotes <;> simp [h, Prod.ext_iff]
  · rw [if_neg h]
    simp only [reduceCtorEq, false_iff, ← and_assoc, not_and]
    exact fun h' => absurd h' h

/-- A FLUSHING founder yields to the one number and epoch of all STATUS notes heard, when they are not its own (R19). -/
theorem State.yieldAdoption_iff (s : State) (f : FrameNo) (e : EpochNo) :
    s.yieldAdoption = .yield f e ↔
      s.membership.state = .flushing ∧ s.membership.founder = true ∧
        (s.heardNotes.filter fun n => n.kind == .status) ≠ [] ∧
        (∀ n ∈ s.heardNotes.filter fun n => n.kind == .status, n.frame = f ∧ n.epoch = e) ∧
        (f ≠ s.barrier.frameNo ∨ e ≠ s.epochs.epoch) := by
  have hc := common_eq_some_iff (fun n : Note => (n.frame, n.epoch)) (s.heardNotes.filter fun n => n.kind == .status)
    (f, e)
  simp only [Prod.mk.injEq] at hc
  rw [← and_assoc (a := (s.heardNotes.filter fun n => n.kind == .status) ≠ []), ← hc]
  unfold State.yieldAdoption
  by_cases h : s.membership.state = .flushing ∧ s.membership.founder = true
  · rw [if_pos h]
    cases hv : common (fun n => (n.frame, n.epoch)) (s.heardNotes.filter fun n => n.kind == .status) with
    | none => simp
    | some v =>
      obtain ⟨f', e'⟩ := v
      by_cases hne : (f', e') = (s.barrier.frameNo, s.epochs.epoch)
      · simp only [Prod.mk.injEq] at hne
        simp only [h, hne, ne_eq, not_true_eq_false, if_false, reduceCtorEq, Option.some.injEq, Prod.mk.injEq, true_and,
          false_iff, not_and]
        rintro ⟨rfl, rfl⟩; simp
      · simp only [h, hne, ne_eq, not_false_eq_true, if_true, Option.some.injEq, Prod.mk.injEq, true_and,
          Adoption.yield.injEq]
        refine ⟨fun hfe => ⟨hfe, ?_⟩, fun hfe => hfe.1⟩
        obtain ⟨rfl, rfl⟩ := hfe
        simpa only [Prod.mk.injEq, not_and_or] using hne
  · rw [if_neg h]
    simp only [reduceCtorEq, false_iff, ← and_assoc, not_and]
    exact fun h' => absurd h' (by tauto)

/-- The STATUS and LEAVE notes heard, of whose number a slip takes account (R18). -/
def State.slipNotes (s : State) : List Note := s.heardNotes.filter fun n => n.kind == .status || n.kind == .leave

/-- A station with a number slips to the one that all STATUS and LEAVE notes heard carry, when it is not its own and they
are two or one is of a lower index (R18). -/
theorem State.slipAdoption_iff (s : State) (f : FrameNo) :
    s.slipAdoption = .slip f ↔
      s.hasNumber = true ∧ s.membership.founder = false ∧ s.slipNotes ≠ [] ∧ (∀ n ∈ s.slipNotes, n.frame = f) ∧
        f ≠ s.barrier.frameNo ∧ (2 ≤ s.slipNotes.length ∨ ∃ n ∈ s.slipNotes, n.index < s.prof.index) := by
  rw [← and_assoc (a := s.slipNotes ≠ []), ← common_eq_some_iff Note.frame s.slipNotes f]
  unfold State.slipAdoption
  change (if s.hasNumber = true ∧ s.membership.founder = false then
    (match common Note.frame s.slipNotes with
      | some frame =>
        if frame ≠ s.barrier.frameNo ∧
            (2 ≤ s.slipNotes.length ∨ (s.slipNotes.any fun n => decide (n.index < s.prof.index)) = true) then
          Adoption.slip frame
        else .none
      | none => .none)
    else .none) = .slip f ↔ _
  by_cases h : s.hasNumber = true ∧ s.membership.founder = false
  · rw [if_pos h]
    simp only [List.any_eq_true, decide_eq_true_eq]
    cases hv : common Note.frame s.slipNotes with
    | none => simp
    | some g =>
      simp only [h, true_and, Option.some.injEq]
      by_cases hg : g ≠ s.barrier.frameNo ∧ (2 ≤ s.slipNotes.length ∨ ∃ n ∈ s.slipNotes, n.index < s.prof.index)
      · rw [if_pos hg]
        simp only [Adoption.slip.injEq]
        exact ⟨fun e => ⟨e, by rw [← e]; exact hg.1, hg.2⟩, fun e => e.1⟩
      · rw [if_neg hg]
        simp only [reduceCtorEq, false_iff]
        rintro ⟨rfl, h1, h2⟩
        exact hg ⟨h1, h2⟩
  · rw [if_neg h]
    simp only [reduceCtorEq, false_iff, ← and_assoc, not_and]
    exact fun h' => absurd h' (by tauto)

/-- At most one of the three conditions holds (R49): a listener's excludes the others. -/
theorem State.adoption_of_listening {s : State} {f : FrameNo} {e : EpochNo} (h : s.listeningAdoption = .listening f e) :
    s.adoption = .listening f e := by
  simp [State.adoption, h]

/-- A founder's yield stands alone. -/
theorem State.adoption_of_yield {s : State} {f : FrameNo} {e : EpochNo} (h : s.yieldAdoption = .yield f e) :
    s.adoption = .yield f e := by
  have hs := ((s.yieldAdoption_iff f e).1 h).1
  have hl : s.listeningAdoption = .none := by simp [State.listeningAdoption, hs]
  simp [State.adoption, hl, h]

/-- A slip stands alone. -/
theorem State.adoption_of_slip {s : State} {f : FrameNo} (h : s.slipAdoption = .slip f) : s.adoption = .slip f := by
  obtain ⟨hn, hf, -⟩ := (s.slipAdoption_iff f).1 h
  have hl : s.listeningAdoption = .none := by
    refine if_neg fun hc => ?_
    simp [State.hasNumber, hc] at hn
  have hy : s.yieldAdoption = .none := if_neg fun hc => by rw [hf] at hc; cases hc.2
  simp [State.adoption, hl, hy, h]

/-- The adoption is that of the one condition that holds. -/
theorem State.adoption_cases (s : State) :
    (∃ f e, s.listeningAdoption = .listening f e ∧ s.adoption = .listening f e) ∨
    (∃ f e, s.yieldAdoption = .yield f e ∧ s.adoption = .yield f e) ∨
    (∃ f, s.slipAdoption = .slip f ∧ s.adoption = .slip f) ∨
    (s.listeningAdoption = .none ∧ s.yieldAdoption = .none ∧ s.slipAdoption = .none ∧ s.adoption = .none) := by
  rcases s.listeningAdoption_cases with hl | ⟨f, e, hl⟩
  · rcases s.yieldAdoption_cases with hy | ⟨f, e, hy⟩
    · rcases s.slipAdoption_cases with hs | ⟨f, hs⟩
      · exact .inr (.inr (.inr ⟨hl, hy, hs, by simp [State.adoption, hl, hy, hs]⟩))
      · exact .inr (.inr (.inl ⟨f, hs, State.adoption_of_slip hs⟩))
    · exact .inr (.inl ⟨f, e, hy, State.adoption_of_yield hy⟩)
  · exact .inl ⟨f, e, hl, State.adoption_of_listening hl⟩

theorem State.adoption_listening_iff {s : State} {f : FrameNo} {e : EpochNo} :
    s.adoption = .listening f e ↔ s.listeningAdoption = .listening f e := by
  refine ⟨fun h => ?_, State.adoption_of_listening⟩
  rcases s.adoption_cases with ⟨f', e', hl, ha⟩ | ⟨f', e', -, ha⟩ | ⟨f', -, ha⟩ | ⟨-, -, -, ha⟩ <;> rw [ha] at h
  · rw [hl, h]
  all_goals cases h

theorem State.adoption_yield_iff {s : State} {f : FrameNo} {e : EpochNo} :
    s.adoption = .yield f e ↔ s.yieldAdoption = .yield f e := by
  refine ⟨fun h => ?_, State.adoption_of_yield⟩
  rcases s.adoption_cases with ⟨f', e', -, ha⟩ | ⟨f', e', hy, ha⟩ | ⟨f', -, ha⟩ | ⟨-, -, -, ha⟩ <;> rw [ha] at h
  · cases h
  · rw [hy, h]
  all_goals cases h

theorem State.adoption_slip_iff {s : State} {f : FrameNo} : s.adoption = .slip f ↔ s.slipAdoption = .slip f := by
  refine ⟨fun h => ?_, State.adoption_of_slip⟩
  rcases s.adoption_cases with ⟨f', e', -, ha⟩ | ⟨f', e', -, ha⟩ | ⟨f', hs, ha⟩ | ⟨-, -, -, ha⟩ <;> rw [ha] at h
  · cases h
  · cases h
  · rw [hs, h]
  · cases h

/-! ### The blocks after the handoff -/

/-- The number that an adoption gives, none where it gives none. -/
theorem State.numberAfter_of_none {s : State} (h : s.adoption = .none) : s.numberAfter = s.barrier.frameNo := by
  simp [State.numberAfter, h]

/-- Of the membership controller the window end changes the listening items and the founder marker; only a listener's
adoption changes whether a number is adopted (R74, R75, R80). -/
theorem State.membershipAtEnd_frame (s : State) :
    ∃ quiet foreignHeard adopted,
      s.membershipAtEnd = { s.membership with founder := false, quiet, foreignHeard, adopted } ∧
      (s.membership.state ≠ .listening → adopted = s.membership.adopted) ∧
      ((∀ f e, s.adoption ≠ .listening f e) → adopted = s.membership.adopted) ∧
      (∀ f e, s.adoption = .listening f e → adopted = some f) := by
  unfold State.membershipAtEnd
  by_cases h : s.membership.state = .listening
  · rw [if_pos h]
    refine ⟨_, _, _, rfl, fun h' => absurd h h', fun h' => ?_, fun f e h' => by rw [h']⟩
    cases ha : s.adoption <;> first | rfl | exact absurd ha (h' _ _)
  · rw [if_neg h]
    refine ⟨s.membership.quiet, s.membership.foreignHeard, s.membership.adopted, rfl, fun _ => rfl, fun _ => rfl,
      fun f e h' => ?_⟩
    exact absurd ((s.listeningAdoption_iff f e).1 (State.adoption_listening_iff.1 h')).1 h

/-- The window end may clear readiness and sets none (R133, R139). -/
theorem State.turnAfter_ready (s : State) : s.turnAfter.ready = none ∨ s.turnAfter.ready = s.epochs.ready := by
  have settle (e : EpochUnit) : e.settleUnready.ready = none ∨ e.settleUnready.ready = e.ready := by
    unfold EpochUnit.settleUnready; split
    · exact .inl rfl
    · exact .inr rfl
  unfold State.turnAfter
  simp only
  split
  · split
    · exact .inl rfl
    · exact settle _
  · repeat' split
    all_goals first | exact .inr rfl | exact settle _

/-- The cursor's part is a new lookahead or nothing (R128, R137). -/
theorem State.cursorAtEnd_cases (s before : State) :
    s.cursorAtEnd before = s ∨ ∃ content, s.cursorAtEnd before = s.setLookahead content := by
  unfold State.cursorAtEnd
  split
  · exact .inr ⟨_, rfl⟩
  · split
    · split
      · exact .inr ⟨_, rfl⟩
      · exact .inl rfl
    · split
      · exact .inr ⟨_, rfl⟩
      · exact .inl rfl
    all_goals exact .inl rfl

end Sys2Proof.Machine
end

section
/-! SUPPORT. The window end, the notes and the frame mark keep the blocks in agreement. -/

namespace Sys2Proof.Machine

/-! ### Running the cursor at a LEAVING station -/

/-- A LEAVING station has no leave left to set (R86). -/
theorem State.reachEntry_of_leaving {s : State} (h : s.membership.state = .leaving) : s.reachEntry = s := by
  unfold State.reachEntry
  split
  · exact if_neg fun hc => hc.2 h
  all_goals rfl

theorem State.moveOn_membership_of_leaving {s : State} (link : Link) (h : s.membership.state = .leaving) :
    (s.moveOn link).membership = s.membership := by
  unfold State.moveOn
  cases link with
  | next e => simp only; rw [State.reachEntry_of_leaving (by exact h)]
  | park => rfl
  | depart => rfl
  | repeats n =>
    simp only
    split
    · rw [State.reachEntry_of_leaving (by exact h)]
    · rw [State.reachEntry_of_leaving (by exact h)]
    all_goals rfl

theorem State.makeCurrent_membership_of_leaving {s : State} (content : Content) (h : s.membership.state = .leaving) :
    (s.makeCurrent content).membership = s.membership := by
  unfold State.makeCurrent
  cases content with
  | apply e =>
    simp only
    unfold State.consume
    simp only
    split
    · rfl
    · split
      · exact State.moveOn_membership_of_leaving _ h
      · rfl
  | _ => rfl

/-- Making a content current changes the cursor and, of the membership controller, the pending leave mode (R125, R126). -/
theorem State.makeCurrent_frame (content : Content) (s : State) :
    s.makeCurrent content =
      { s with
        membership := { s.membership with pendingLeave := (s.makeCurrent content).membership.pendingLeave }
        cursor := (s.makeCurrent content).cursor } :=
  (State.makeCurrent_runs content s).frame

theorem State.makeCurrent_segment (content : Content) (s : State) :
    (s.makeCurrent content).cursor.segment = s.cursor.segment :=
  (State.makeCurrent_runs content s).segment

theorem State.reachEntry_frame (s : State) :
    s.reachEntry =
      { s with
        membership := { s.membership with pendingLeave := s.reachEntry.membership.pendingLeave }
        cursor := s.reachEntry.cursor } :=
  s.reachEntry_runs.frame

/-- The advance moves the epoch unit, the cursor and the pending leave mode, and ends with the turn state NONE and no
readiness (R136). -/
theorem State.advanceEpoch_frame (s : State) :
    ∃ pendingLeave cursor staged,
      s.advanceEpoch =
        { s with
          membership := { s.membership with pendingLeave }
          cursor
          epochs :=
            { s.epochs with epoch := s.epochs.epoch + 1, ready := none, deferred := false, turn := .idle, staged } } := by
  unfold State.advanceEpoch
  simp only
  split
  · rw [State.reachEntry_frame]
    exact ⟨_, _, _, rfl⟩
  · exact ⟨_, _, _, rfl⟩

/-! ### The station after its transition at a mark -/

/-- What the transition of a mark that begins a frame leaves: the membership controller, the cursor and the epoch unit move
alone, and the station is a participant that fits its blocks. -/
structure StartsFrame (s u : State) : Prop where
  frame : u = { s with membership := u.membership, cursor := u.cursor, epochs := u.epochs }
  participant : u.membership.state.participant = true
  fault : u.membership.fault = s.membership.fault
  join : u.membership.joinSegment = s.membership.joinSegment
  adopted : u.membership.adopted = none
  leave : u.membership.pendingLeave = none ∨ u.membership.state = .flushing ∨ u.membership.state = .active
  ready : u.membership.state ≠ .active → u.epochs.ready = none

theorem State.startFlush_starts {s : State} (founder : Bool) (hr : s.epochs.ready = none) :
    StartsFrame s (s.startFlush founder) := by
  unfold State.startFlush
  simp only
  split <;> rw [State.makeCurrent_frame]
  · rw [State.reachEntry_frame]
    exact ⟨rfl, rfl, rfl, rfl, rfl, .inr (.inl rfl), fun _ => hr⟩
  · exact ⟨rfl, rfl, rfl, rfl, rfl, .inr (.inl rfl), fun _ => hr⟩

/-- A station that becomes LEAVING at a mark and takes its content. -/
theorem State.leaves_starts {s : State} (content : Content) (ha : s.membership.adopted = none) :
    StartsFrame s (s.becomeLeaving.makeCurrent content) := by
  have hm := State.makeCurrent_membership_of_leaving content s.becomeLeaving_state
  rw [State.makeCurrent_frame, hm]
  exact ⟨rfl, rfl, rfl, rfl, ha, .inl rfl, fun _ => rfl⟩

/-- A station that stays in the rig at a mark and takes its content. -/
theorem State.staysOn_starts {s : State} (content : Content) (hp : s.membership.state.participant = true)
    (ha : s.membership.adopted = none) (hl : s.membership.state = .leaving → s.membership.pendingLeave = none)
    (hr : s.membership.state = .leaving → s.epochs.ready = none) :
    StartsFrame s (s.stayOn.makeCurrent content) := by
  rcases (StationState.participant_iff _).1 hp with e | e | e
  · have hst : s.stayOn.membership.state = .active := by simp [State.stayOn, e]
    rw [State.makeCurrent_frame]
    exact ⟨rfl, by rw [hst]; rfl, rfl, rfl, ha, .inr (.inr hst), fun h => absurd hst h⟩
  · have hst : s.stayOn.membership.state = .active := by simp [State.stayOn, e]
    rw [State.makeCurrent_frame]
    exact ⟨rfl, by rw [hst]; rfl, rfl, rfl, ha, .inr (.inr hst), fun h => absurd hst h⟩
  · have hst : s.stayOn.membership.state = .leaving := by simp [State.stayOn, e]
    rw [State.makeCurrent_frame, State.makeCurrent_membership_of_leaving content hst]
    exact ⟨rfl, by rw [hst]; rfl, rfl, rfl, ha, .inl (hl e), fun _ => hr e⟩

theorem StartsFrame.trans_advance {s u : State} (h : StartsFrame s.advanceEpoch u) : StartsFrame s u := by
  obtain ⟨pendingLeave, cursor, staged, e⟩ := s.advanceEpoch_frame
  rw [e] at h
  exact ⟨h.frame, h.participant, h.fault, h.join, h.adopted, h.leave, h.ready⟩

/-- A LEAVING station has no advance due that could leave it a pending leave mode. -/
theorem State.advanceEpoch_pendingLeave {s : State} (h : s.membership.state = .leaving) :
    s.advanceEpoch.membership = s.membership := by
  unfold State.advanceEpoch
  simp only
  split
  · rw [State.reachEntry_of_leaving (by exact h)]; rfl
  · rfl

namespace InOrder
variable {s : State}

theorem startNext (h : InOrder s) (hp : s.membership.state.participant = true) (frame : FrameNo) :
    StartsFrame s (s.startNext frame) := by
  have ha := h.adoption (StationState.ne_listening_of_participant hp)
  have hl (e : s.membership.state = .leaving) : s.membership.pendingLeave = none := by
    rcases h.leave with hn | hn | hn
    · exact hn
    all_goals rw [e] at hn; cases hn
  have hr (e : s.membership.state = .leaving) : s.epochs.ready = none := h.ready (by rw [e]; decide)
  unfold State.startNext
  cases s.epochs.turn.isDue
  · simp only [Bool.false_eq_true, if_false]
    split
    · exact State.leaves_starts _ ha
    · exact State.staysOn_starts _ hp ha hl hr
  · simp only [if_true]
    obtain ⟨pendingLeave, cursor, staged, e⟩ := s.advanceEpoch_frame
    have hst : s.advanceEpoch.membership.state = s.membership.state := by rw [e]
    have ha' : s.advanceEpoch.membership.adopted = none := by rw [e]; exact ha
    split
    · exact (State.leaves_starts _ ha').trans_advance
    · refine (State.staysOn_starts _ (by rw [hst]; exact hp) ha' ?_ ?_).trans_advance
      · intro hs
        rw [hst] at hs
        rw [State.advanceEpoch_pendingLeave hs]
        exact hl hs
      · intro _; rw [e]

/-- The frame's blocks take the content of a station that its transition left in order. -/
theorem runContent {u : State} (h : InOrder s) (hs : StartsFrame s u) (hpull : s.barrier.pulled = false)
    (hb : s.barrier.phase = .watching ∨ s.barrier.phase = .released) (frame : FrameNo) (turn resolves : Bool)
    (content : Content) : InOrder (u.runContent frame turn resolves content) := by
  have hr := StationState.inRig_of_participant hs.participant
  have hsr : s.membership.state.inRig = true :=
    h.inRig_of_phase (by rcases hb with e | e <;> rw [e] <;> decide)
  have hf := hs.frame
  have phase : (u.runContent frame turn resolves content).phaseFits = true := by
    have hph : (u.runContent frame turn resolves content).barrier.phase = s.barrier.phase := by rw [hf]; rfl
    unfold State.phaseFits
    rw [hph]
    rcases hb with e | e <;> rw [e]
    · exact (if_pos rfl).trans hs.participant
    · exact hs.participant
  exact
    { phase
      pull := by
        rw [hf]
        exact hpull.trans (by rcases hb with e | e <;> simp [State.runContent, State.barrierAtMark, e, Phase.pulls])
      number := fun hn => by
        have : (u.runContent frame turn resolves content).hasNumber = true := State.hasNumber_of_participant hs.participant
        rw [this] at hn; cases hn
      fault := by
        change u.membership.fault.isSome = true ↔ u.membership.state = _
        rw [hs.fault, h.fault]
        simp [StationState.ne_detached_of_inRig hr, StationState.ne_detached_of_inRig hsr]
      profile := by
        rw [hf]
        exact h.profile.trans (by
          simp [State.runContent, StationState.ne_unconfigured_of_inRig hr, StationState.ne_unconfigured_of_inRig hsr])
      join := by
        change u.membership.joinSegment.isSome = u.membership.state.inRig
        rw [hs.join, hr, h.join, hsr]
      leave := hs.leave
      adoption := fun _ => hs.adopted
      ready := hs.ready
      outputs := outputs_of_participant hs.participant
      rig := fun e => by
        change u.membership.state.inRig = false at e
        rw [hr] at e; cases e
      table := fun e => by
        change u.membership.state.judgesSplit = false at e
        rw [StationState.judgesSplit_of_participant hs.participant] at e; cases e
      cursor := outputs_of_participant hs.participant
      settle := by rw [hf]; exact h.settle
      unlocked := by rw [hf]; exact h.unlocked
      divider := fun e => absurd e (StationState.ne_unconfigured_of_inRig hr)
      lost := by rw [hf]; exact h.lost
      waits := by rw [hf]; exact h.waits
      held := by rw [hf]; exact fun e => absurd (h.held e).1 (StationState.ne_unconfigured_of_inRig hsr) }

/-- A mark opens a window in the rig (R23). -/
theorem markWindow (h : InOrder s) (hr : s.membership.state.inRig = true) : InOrder s.markWindow :=
  { h with rig := fun e => by change s.membership.state.inRig = false at e; rw [hr] at e; cases e }

theorem StartsFrame.setLookahead {s u : State} (h : StartsFrame s u) (content : Content) :
    StartsFrame s (u.setLookahead content) := by
  have hf := h.frame
  refine ⟨?_, h.participant, h.fault, h.join, h.adopted, h.leave, h.ready⟩
  rw [hf]; rfl

theorem beginFrame (h : InOrder s) (start : FrameStart) (hpull : s.barrier.pulled = false)
    (hb : s.barrier.phase = .watching ∨ s.barrier.phase = .released)
    (hs : ∀ frame, StartsFrame s (s.startFrame start frame)) : InOrder (s.beginFrame start) := by
  unfold State.beginFrame
  simp only
  refine InOrder.logChains (InOrder.markWindow (h.runContent ?_ hpull hb _ _ _ _) ?_) _
  · exact StartsFrame.setLookahead (hs _) _
  · exact StationState.inRig_of_participant (hs _).participant

theorem listenMark (h : InOrder s) (hl : s.membership.state = .listening) : InOrder s.listenMark := by
  unfold State.listenMark
  refine InOrder.logChains (InOrder.markWindow ?_ (by change s.membership.state.inRig = true; rw [hl]; rfl)) _
  exact
    { h with
      number := fun hn => by
        simp only [State.hasNumber, hl] at hn
        have : s.hasNumber = false := by simpa [State.hasNumber, hl] using hn
        simpa [hn] using h.number this }

/-! ### The window end -/

/-- A station without a number in force after the handoff had none before it and adopts none (R17 to R19). -/
theorem number_of_unnumbered (h : InOrder s) {adopted : Option FrameNo} (hj : s.membership.state.judgesSplit = false)
    (hn : s.membership.state = .listening → adopted = none)
    (ha2 : (∀ f e, s.adoption ≠ .listening f e) → adopted = s.membership.adopted)
    (ha3 : ∀ f e, s.adoption = .listening f e → adopted = some f) : s.numberAfter = 0 := by
  rcases s.adoption_cases with ⟨f, e, hl, ha⟩ | ⟨f, e, hy, ha⟩ | ⟨f, hs, ha⟩ | ⟨-, -, -, ha⟩
  · have := hn ((s.listeningAdoption_iff f e).1 hl).1
    rw [ha3 f e ha] at this; cases this
  · rw [((s.yieldAdoption_iff f e).1 hy).1] at hj; cases hj
  · have hnot := ha2 fun f e hc => by rw [ha] at hc; cases hc
    have hnum := (s.hasNumber_iff).1 ((s.slipAdoption_iff f).1 hs).1
    rw [hj] at hnum
    rcases hnum with hnum | ⟨hlis, hsome⟩
    · cases hnum
    · rw [← hnot, hn hlis] at hsome; cases hsome
  · rw [State.numberAfter_of_none ha]
    refine h.number ?_
    rw [← Bool.not_eq_true, s.hasNumber_iff, hj, ← ha2 fun f e hc => by rw [ha] at hc; cases hc]
    rintro (hc | ⟨hlis, hsome⟩)
    · cases hc
    · rw [hn hlis] at hsome; cases hsome

theorem afterHandoff (h : InOrder s) (hr : s.membership.state.inRig = true) : InOrder s.afterHandoff := by
  obtain ⟨quiet, foreignHeard, adopted, hm, ha1, ha2, ha3⟩ := s.membershipAtEnd_frame
  have closed : InOrder
      { s with
        barrier :=
          { s.barrier with
            frameNo := s.numberAfter
            windowDone := s.barrier.windowDone || s.membership.state.participant }
        transceiver := s.transceiver.close
        roster := s.rosterAtEnd s.completeView
        resolver := s.resolverAtEnd
        membership := s.membershipAtEnd
        epochs := s.epochsAtEnd } := by
    rw [hm]
    exact
      { h with
        number := fun hn => by
          rw [← Bool.not_eq_true, State.hasNumber_iff, not_or, not_and, Bool.not_eq_true, Option.not_isSome_iff_eq_none]
            at hn
          exact h.number_of_unnumbered hn.1 hn.2 ha2 ha3
        adoption := fun hs => (ha1 hs).trans (h.adoption hs)
        ready := fun hs => by
          rcases s.turnAfter_ready with e | e
          · exact e
          · exact e.trans (h.ready hs)
        rig := fun e => by change s.membership.state.inRig = false at e; rw [hr] at e; cases e
        table := fun e => by
          change s.membership.state.judgesSplit = false at e
          simp [State.resolverAtEnd, e, h.table e] }
  unfold State.afterHandoff
  rcases State.cursorAtEnd_cases _ s with e | ⟨content, e⟩ <;> rw [e]
  · exact closed
  · exact closed.setLookahead content

theorem handoff (h : InOrder s) (hr : s.membership.state.inRig = true) : InOrder s.handoff := by
  unfold State.handoff
  split
  · exact h.detach _ _
  · exact (h.afterHandoff hr).finish _

theorem windowEnd (h : InOrder s) : InOrder (windowEndEffect s) := by
  unfold windowEndEffect
  split
  · next hw => exact (h.advanceTo _).handoff (h.inRig_of_window hw)
  · exact h

end InOrder
end Sys2Proof.Machine
end

section
/-! SUPPORT. The frame mark, the notes, the commands and the timebase keep the blocks in agreement, and so does every step. -/

namespace Sys2Proof.Machine
namespace InOrder
variable {s : State}

/-! ### The mark and the samples of FRAME -/

theorem closeEarly (h : InOrder s) : InOrder s.closeEarly := by
  unfold State.closeEarly
  split
  · next hw =>
    refine InOrder.handoff ?_ (h.inRig_of_window hw)
    exact { h with }
  · exact h

theorem takeMark (h : InOrder s) : InOrder s.takeMark := by
  unfold State.takeMark
  have hc : InOrder
      { s with barrier := { s.barrier with lows := 0, highs := 0, sampled := true, marked := true } }.closeEarly :=
    InOrder.closeEarly { h with }
  revert hc
  generalize State.closeEarly _ = u
  intro hu
  have quiet (hb : u.barrier.phase = .watching ∨ u.barrier.phase = .released) : u.barrier.pulled = false := by
    rw [hu.pull]; rcases hb with e | e <;> rw [e] <;> rfl
  simp only
  split
  case h_1 hb hl => exact hu.listenMark hl
  case h_2 hb hj =>
    exact hu.beginFrame _ (quiet (.inl hb)) (.inl hb)
      fun _ => State.startFlush_starts false (hu.ready (by rw [hj]; decide))
  case h_3 hb hf =>
    exact hu.beginFrame _ (quiet (.inl hb)) (.inl hb)
      fun _ => State.startFlush_starts true (hu.ready (by rw [hf]; decide))
  case h_4 hb hs => exact hu.beginFrame _ (quiet (.inr hb)) (.inr hb) (hu.startNext (by rw [hs]; rfl))
  case h_5 hb hs => exact hu.beginFrame _ (quiet (.inr hb)) (.inr hb) (hu.startNext (by rw [hs]; rfl))
  case h_6 hb hs => exact hu.beginFrame _ (quiet (.inr hb)) (.inr hb) (hu.startNext (by rw [hs]; rfl))
  case h_7 => exact hu

theorem sampleFrame (h : InOrder s) (high : Bool) : InOrder (s.sampleFrame high) := by
  unfold State.sampleFrame
  simp only
  split
  · exact InOrder.takeMark { h with }
  · exact { h with }

theorem toSample (h : InOrder s) : InOrder s.toSample := by
  unfold State.toSample; split
  · exact h.elapse 1
  · exact h

theorem frameMark (h : InOrder s) : InOrder (frameMarkEffect s) := h.toSample.sampleFrame true

theorem frameLevelChange (h : InOrder s) (high : Bool) : InOrder (frameLevelChangeEffect high s) := by
  unfold frameLevelChangeEffect; split
  · exact h.toSample.sampleFrame high
  · exact { h with }

/-! ### Notes -/

theorem searchSpanEnd (h : InOrder s) (slot : Fin 16) (low : Bool) : InOrder (searchSpanEndEffect slot low s) := by
  unfold searchSpanEndEffect; split
  · exact (h.advanceTo _).concludeSlot _ _
  · exact h

/-- In the rig the roster may hold any members. -/
theorem hearNote (h : InOrder s) (hr : s.membership.state.inRig = true) (slipped : Bool) (n : Note) :
    InOrder (s.hearNote slipped n) := by
  have rig {p : Prop} : s.membership.state.inRig = false → p := fun e => by rw [hr] at e; cases e
  unfold State.hearNote; split
  · exact { h with rig := rig }
  · refine InOrder.logChains ?_ _
    exact { h with rig := rig }

theorem takeReception (h : InOrder s) (hr : s.membership.state.inRig = true) (slot : Fin 16) (bytes : List Byte) :
    InOrder (s.takeReception slot bytes) := by
  unfold State.takeReception
  have hb : InOrder { s with transceiver := { s.transceiver with buffer := bytes } } := { h with }
  revert hb
  generalize hu : ({ s with transceiver := { s.transceiver with buffer := bytes } } : State) = u
  have hur : u.membership.state.inRig = true := by rw [← hu]; exact hr
  intro hb
  simp only
  split
  · exact hb.concludeSlot _ _
  · exact { hb.concludeSlot slot .foreign with }
  · unfold State.takeNote
    simp only
    split
    · exact hb.detach _ _
    · refine InOrder.hearNote (hb.concludeSlot _ _) ?_ _ _
      rw [State.concludeSlot_frame]; exact hur

theorem noteCompletion (h : InOrder s) (slot : Fin 16) (r : Reception) : InOrder (noteCompletionEffect slot r s) := by
  unfold noteCompletionEffect; split
  · next hc =>
    simp only [State.receives, State.hears, Bool.and_eq_true] at hc
    exact (h.advanceTo _).takeReception (h.inRig_of_window hc.1.1.1) _ _
  · exact h

/-- A listener that sends its JOIN note watches on as a JOINING station (R76). -/
theorem becomeJoining (h : InOrder s) : InOrder s.becomeJoining := by
  unfold State.becomeJoining
  split
  · next hl =>
    have hd : s.barrier.pullDue = false := by
      cases hd : s.barrier.pullDue
      · rfl
      · have := (h.pullDue_phase hd).1; rw [hl] at this; cases this
    exact
      { h with
        phase := by
          have hph := h.phase
          unfold State.phaseFits at hph ⊢
          cases hb : s.barrier.phase <;> simp [hb, hl, hd, StationState.inRig, StationState.participant] at hph ⊢
        number := fun e => by cases e
        fault := by have := h.fault; rw [hl] at this; simpa using this
        profile := h.profile.trans (by simp [hl])
        join := h.join.trans (by rw [hl]; rfl)
        leave := by have := h.leave; rw [hl] at this; simpa using this
        adoption := fun _ => rfl
        ready := fun _ => h.ready (by rw [hl]; decide)
        outputs := fun _ => h.outputs (by rw [hl]; rfl)
        rig := fun e => by cases e
        table := fun e => by cases e
        cursor := fun _ => h.cursor (by rw [hl]; rfl)
        divider := fun e => by cases e
        held := fun e => absurd (h.held e).1 (by rw [hl]; decide) }
  · exact h

theorem ownTransmissionStart (h : InOrder s) : InOrder (ownTransmissionStartEffect s) := by
  unfold ownTransmissionStartEffect
  split
  · have hp : InOrder (s.advanceTo s.ownStartTick).passOwnSlot := { h.advanceTo s.ownStartTick with }
    revert hp
    generalize State.passOwnSlot _ = u
    intro hu
    simp only
    split
    · exact { hu.becomeJoining with }
    · exact hu.concludeSlot _ _
  · exact h

theorem ownNoteCompletion (h : InOrder s) (levels : List (Bool × Bool)) :
    InOrder (ownNoteCompletionEffect levels s) := by
  unfold ownNoteCompletionEffect
  split
  · next x hx =>
    have hu : InOrder
        { s.advanceTo (x.start + x.note.ticks) with
          transceiver := { (s.advanceTo (x.start + x.note.ticks)).transceiver with sending := none } } :=
      { h.advanceTo (x.start + x.note.ticks) with }
    revert hu
    simp only
    generalize ({ s.advanceTo (x.start + x.note.ticks) with
          transceiver := { (s.advanceTo (x.start + x.note.ticks)).transceiver with sending := none } } : State) = u
    intro hu
    split
    · unfold State.judgeReadback
      split
      · exact (hu.concludeSlot _ _).detach _ _
      · exact { hu.concludeSlot _ _ with }
    · unfold State.endUnjudged
      split
      · exact hu
      · exact { hu with }
  · exact h

theorem partingNoteSend (h : InOrder s) : InOrder (partingNoteSendEffect s) := by
  unfold partingNoteSendEffect
  split
  · exact { h.advanceTo _ with }
  · exact h
  · exact h

theorem verifyWalkConclusion (h : InOrder s) : InOrder (verifyWalkConclusionEffect s) := by
  unfold verifyWalkConclusionEffect concludeWalk
  split
  · refine InOrder.logChains ?_ _
    exact { h.advanceTo _ with }
  all_goals exact h

end InOrder
end Sys2Proof.Machine
end

section
/-! SUPPORT. The commands and the timebase keep the blocks in agreement, and so does every step (O58). -/

namespace Sys2Proof.Machine

/-! ### Ticks go on over a command -/

theorem State.ticking_of_same {s t : State} (h1 : t.rstnLow = s.rstnLow) (h2 : t.timebase.lost = s.timebase.lost) :
    t.ticking = s.ticking := by simp [State.ticking, h1, h2]

theorem State.finishDrain_ticking (s : State) : s.finishDrain.ticking = s.ticking := by
  unfold State.finishDrain; split <;> rfl

theorem State.drain_ticking (s : State) : s.drain.ticking = s.ticking := by
  unfold State.drain; rw [State.finishDrain_ticking]; rfl

theorem State.departNow_ticking (s : State) : s.departNow.ticking = s.ticking := rfl

theorem State.leaveAtOnce_ticking (s : State) : s.leaveAtOnce.ticking = s.ticking := by
  unfold State.leaveAtOnce
  split
  · rfl
  · split
    · rw [State.drain_ticking, State.departNow_ticking]
    · rfl

theorem State.leaveEarly_ticking (s : State) : s.leaveEarly.ticking = s.ticking := by
  unfold State.leaveEarly
  simp only
  split <;> rfl

theorem State.leaveAtFrameEnd_ticking (s : State) : s.leaveAtFrameEnd.ticking = s.ticking := by
  unfold State.leaveAtFrameEnd; split <;> rfl

theorem State.leaveAtSegmentEnd_ticking (s : State) : s.leaveAtSegmentEnd.ticking = s.ticking := by
  unfold State.leaveAtSegmentEnd; split
  · exact s.leaveAtFrameEnd_ticking
  · rfl

/-- No command of the port stops or starts the ticks. -/
theorem portAction_ticking (c : Instr) (s : State) : (portAction c s).ticking = s.ticking := by
  have hr (t : State) (code : ResultCode) : (t.reply code).ticking = t.ticking := rfl
  cases c <;> simp only [portAction, id]
  case setProfile image =>
    unfold setProfileAction; split <;> rfl
  case profileDone => unfold profileDoneAction; split <;> [split <;> rfl; rfl]
  case writePlan index image =>
    unfold writePlanAction
    repeat' split
    all_goals first | rfl | (unfold writeEntry; simp only; split <;> rfl)
  case readPlan index =>
    unfold readPlanAction
    repeat' split
    all_goals rfl
  case verify =>
    unfold verifyAction
    repeat' split
    all_goals rfl
  case join start =>
    unfold joinAction
    repeat' split
    all_goals rfl
  case leaveFrameEnd =>
    unfold leaveFrameEndAction
    repeat' split
    all_goals simp only [hr, State.leaveEarly_ticking, State.leaveAtFrameEnd_ticking]
  case leaveSegmentEnd =>
    unfold leaveSegmentEndAction
    repeat' split
    all_goals simp only [hr, State.leaveEarly_ticking, State.leaveAtSegmentEnd_ticking]
  case leaveImmediate =>
    unfold leaveImmediateAction
    repeat' split
    all_goals simp only [hr, State.leaveEarly_ticking, State.leaveAtOnce_ticking]
  case restart => rfl
  case clearFault => unfold clearFaultAction; split <;> rfl
  case stage start =>
    unfold stageAction
    repeat' split
    all_goals rfl
  case unstage => unfold unstageAction; split <;> rfl
  case readySwitch => unfold readyAction; split <;> rfl
  case readyKeep => unfold readyAction; split <;> rfl
  case unready =>
    unfold unreadyAction
    repeat' split
    all_goals rfl
  case readStatus => rfl
  case readLog =>
    unfold readLogAction
    repeat' split
    all_goals rfl
  case readRoster index =>
    unfold readRosterAction
    repeat' split
    all_goals rfl
  case readGrants => unfold readGrantsAction; split <;> rfl
  case unassignedCommand code argument => unfold unassignedCommandAction; split <;> rfl

namespace InOrder
variable {s : State}

/-! ### LEAVE -/

theorem leaveEarly (h : InOrder s) (hr : s.membership.state.inRig = true) : InOrder s.leaveEarly := by
  have cut : InOrder { s with transceiver := { s.transceiver with sending := none } } := { h with }
  unfold State.leaveEarly
  simp only
  split
  · exact cut.enterStandby hr _ _
  · exact h.enterStandby hr _ _

theorem pendLeave (h : InOrder s) (mode : PendingLeave)
    (hs : s.membership.state = .flushing ∨ s.membership.state = .active) : InOrder (s.pendLeave mode) :=
  { h with leave := .inr hs }

theorem leaveAtFrameEnd (h : InOrder s) (hs : s.membership.state = .flushing ∨ s.membership.state = .active) :
    InOrder s.leaveAtFrameEnd := by
  have hp : s.membership.state.participant = true := (StationState.participant_iff _).2 (by tauto)
  unfold State.leaveAtFrameEnd
  split
  · exact h.pendLeave _ hs
  · exact (h.becomeLeaving hp).setLookahead _

theorem leaveAtSegmentEnd (h : InOrder s) (hs : s.membership.state = .flushing ∨ s.membership.state = .active) :
    InOrder s.leaveAtSegmentEnd := by
  unfold State.leaveAtSegmentEnd
  split
  · exact h.leaveAtFrameEnd hs
  · exact h.pendLeave _ hs

theorem departNow (h : InOrder s) (hp : s.membership.state.participant = true) : InOrder s.departNow := by
  have given : InOrder { s with transceiver := s.departTransceiver } :=
    { h with rig := fun e => ⟨(h.rig e).1, rfl, (h.rig e).2.2⟩ }
  exact (given.becomeLeaving hp).setLookahead _

/-- A LEAVING station that holds FRAME drains (R11). -/
theorem drain (h : InOrder s) (hl : s.membership.state = .leaving) (hb : s.barrier.phase = .holding) :
    InOrder s.drain := by
  have hp : s.membership.state.participant = true := by rw [hl]; rfl
  have hph := h.phase
  simp only [State.phaseFits, hb, Bool.and_eq_true] at hph
  have cut : InOrder (s.stopSequencer.mapGenerators Generator.leaveCut) :=
    (h.stopSequencer hp).mapGenerators hp _
  unfold State.drain
  refine InOrder.finishDrain ?_ (StationState.inRig_of_participant hp)
  exact
    { cut with
      phase := by
        simp only [State.phaseFits, State.mapGenerators_membership, State.stopSequencer_membership,
          State.mapGenerators_barrier, State.stopSequencer_barrier, hl, hph.2]
        rfl
      pull := by
        have := h.pull
        rw [hb] at this
        exact this }

theorem leaveAtOnce (h : InOrder s) (hp : s.membership.state.participant = true) : InOrder s.leaveAtOnce := by
  unfold State.leaveAtOnce
  split
  · exact h
  · split
    · next hb => exact (h.departNow hp).drain rfl hb
    · exact (h.departNow hp).enterStandby rfl _ _

/-! ### The other commands -/

/-- A verified STANDBY station that joins listens, its rig blocks empty (R73). -/
theorem listen (h : InOrder s) (hs : s.membership.state = .standby) (entry : Fin 64) : InOrder (s.listen entry) := by
  have hr : s.membership.state.inRig = false := by rw [hs]; rfl
  obtain ⟨hb, hd⟩ := h.dormant hr
  exact
    { h with
      phase := by simp [State.phaseFits, State.listen, hd]
      pull := by have := h.pull; rw [hb] at this; exact this
      number := fun _ => h.frameNo_of_not_inRig hr
      fault := by simp [State.listen]
      profile := h.profile.trans (by simp [State.listen, hs])
      join := rfl
      leave := .inl rfl
      adoption := fun _ => rfl
      ready := fun _ => h.ready (by rw [hs]; decide)
      outputs := fun _ => h.outputs (by rw [hs]; rfl)
      rig := fun e => by cases e
      table := fun _ => h.table (by rw [hs]; rfl)
      cursor := fun _ => h.cursor (by rw [hs]; rfl)
      divider := fun e => by cases e
      held := fun e => absurd (h.held e).1 (by rw [hs]; decide) }

/-- A part that takes a profile is in STANDBY and settles (R72, R173, R176). -/
theorem configure (h : InOrder s) (hs : s.membership.state = .unconfigured) (ht : s.ticking = true) (p : Profile) :
    InOrder (s.configure p) := by
  obtain ⟨hlow, hlost⟩ := s.ticking_iff.1 ht
  obtain ⟨hb, hd⟩ := h.dormant (by rw [hs]; rfl)
  exact
    { h with
      phase := by simp [State.phaseFits, State.configure, hb, hd, StationState.inRig]
      number := fun _ => h.frameNo_of_not_inRig (by rw [hs]; rfl)
      fault := by have := h.fault; rw [hs] at this; simpa [State.configure] using this
      profile := by simp [State.configure]
      join := h.join.trans (by rw [hs]; rfl)
      leave := by have := h.leave; rw [hs] at this; simpa [State.configure] using this
      adoption := fun _ => h.adoption (by rw [hs]; decide)
      ready := fun _ => h.ready (by rw [hs]; decide)
      outputs := fun _ => h.outputs (by rw [hs]; rfl)
      rig := fun _ => h.rig (by rw [hs]; rfl)
      table := fun _ => h.table (by rw [hs]; rfl)
      cursor := fun _ => h.cursor (by rw [hs]; rfl)
      settle := Nat.zero_le _
      unlocked := fun _ => rfl
      divider := fun e => by cases e
      lost := fun e => by change s.timebase.lost = true at e; rw [hlost] at e; cases e
      held := fun e => by change s.rstnLow = true at e; rw [hlow] at e; cases e }

theorem writeEntry (h : InOrder s) (entry : Fin 64) (content : Option Plan) : InOrder (writeEntry entry content s) := by
  unfold Machine.writeEntry
  simp only
  split
  · refine InOrder.logChains ?_ _
    exact { h with }
  all_goals exact { h with }

theorem restart (h : InOrder s) : InOrder (restartAction s) := by
  unfold restartAction
  refine InOrder.reply (InOrder.logChains (InOrder.clearRig (s := { s with verifier := s.verifier.abandon }) { h with }
    false ?_ ?_ ?_) _) _
  · unfold State.restartTarget; split <;> rfl
  · unfold State.restartTarget; split <;> simp
  · have hp := h.profile
    unfold State.restartTarget
    cases hs : s.profile.isSome <;> simp [hs] at hp ⊢ <;> exact hp

theorem clearFault (h : InOrder s) : InOrder (clearFaultAction s) := by
  unfold clearFaultAction
  split
  · next hs =>
    refine InOrder.reply ?_ _
    have hr : s.membership.state.inRig = false := by rw [hs]; rfl
    obtain ⟨hb, hd⟩ := h.dormant hr
    exact
      { h with
        phase := by simp [State.phaseFits, hb, hd, StationState.inRig]
        number := fun _ => h.frameNo_of_not_inRig hr
        fault := by simp
        profile := h.profile.trans (by simp [hs])
        join := h.join.trans (by rw [hs]; rfl)
        leave := by have := h.leave; rw [hs] at this; simpa using this
        adoption := fun _ => h.adoption (by rw [hs]; decide)
        ready := fun _ => h.ready (by rw [hs]; decide)
        outputs := fun _ => h.outputs (by rw [hs]; rfl)
        rig := fun _ => h.rig hr
        table := fun _ => h.table (by rw [hs]; rfl)
        cursor := fun _ => h.cursor (by rw [hs]; rfl)
        divider := fun e => by cases e
        held := fun e => absurd (h.held e).1 (by rw [hs]; decide) }
  · exact h.reply _

theorem ready_action (h : InOrder s) (mode : ReadyMode) : InOrder (readyAction mode s) := by
  unfold readyAction
  split
  · next hm =>
    refine InOrder.reply ?_ _
    have ha : s.membership.state = .active := by
      simp only [State.mayReady, Bool.and_eq_true, beq_iff_eq] at hm
      exact hm.1.1.1
    exact { h with ready := fun e => absurd ha e }
  · exact h.reply _

theorem unready (h : InOrder s) : InOrder (unreadyAction s) := by
  unfold unreadyAction
  repeat' split
  · exact h.reply _
  · exact h.reply _
  · refine InOrder.reply ?_ _
    exact { h with }
  · refine InOrder.reply ?_ _
    exact { h with ready := fun _ => rfl }

theorem readLog (h : InOrder s) : InOrder (readLogAction s) := by
  unfold readLogAction
  simp only
  repeat' split
  · exact { h with }
  · exact h.reply _
  · exact { h with }

theorem readRoster (h : InOrder s) (index : Byte) : InOrder (readRosterAction index s) := by
  unfold readRosterAction
  repeat' split
  all_goals exact h.replyWith _ _

/-- Every command of the port keeps the blocks in agreement at its tick. -/
theorem portAction (h : InOrder s) (ht : s.ticking = true) (c : Instr) : InOrder (portAction c s) := by
  cases c <;> simp only [Machine.portAction]
  case setProfile image =>
    unfold setProfileAction
    split
    · refine InOrder.reply ?_ _
      exact { h with }
    · exact h.reply _
  case profileDone =>
    unfold profileDoneAction
    split
    · next hs =>
      split
      · exact (h.configure hs ht _).reply _
      · exact h.reply _
    · exact h.reply _
  case writePlan index image =>
    unfold writePlanAction
    repeat' split
    all_goals first | exact h.reply _ | exact (h.writeEntry _ _).reply _
  case readPlan index =>
    unfold readPlanAction
    repeat' split
    all_goals exact h.replyWith _ _
  case verify =>
    unfold verifyAction
    repeat' split
    · exact h.reply _
    · exact h.reply _
    all_goals
      refine InOrder.reply ?_ _
      exact { h with }
  case join start =>
    unfold joinAction
    split
    · exact h.reply _
    · next hs =>
      repeat' split
      · exact h.reply _
      · exact h.reply _
      · exact (h.listen (by simpa using hs) _).reply _
  case leaveFrameEnd =>
    unfold leaveFrameEndAction
    split <;> rename_i hs
    all_goals first
      | exact h.reply _
      | exact (h.leaveEarly (by rw [hs]; rfl)).reply _
      | skip
    all_goals
      split
      · exact h.reply _
      all_goals exact (h.leaveAtFrameEnd (by simp [hs])).reply _
  case leaveSegmentEnd =>
    unfold leaveSegmentEndAction
    split <;> rename_i hs
    all_goals first
      | exact h.reply _
      | exact (h.leaveEarly (by rw [hs]; rfl)).reply _
      | skip
    all_goals
      split
      · exact h.reply _
      · exact h.reply _
      · exact (h.leaveAtSegmentEnd (by simp [hs])).reply _
  case leaveImmediate =>
    unfold leaveImmediateAction
    split <;> rename_i hs
    all_goals first
      | exact h.reply _
      | exact (h.leaveEarly (by rw [hs]; rfl)).reply _
      | exact (h.leaveAtOnce (by rw [hs]; rfl)).reply _
  case restart => exact h.restart
  case clearFault => exact h.clearFault
  case stage start =>
    unfold stageAction
    repeat' split
    · exact h.reply _
    · exact h.reply _
    · refine InOrder.reply ?_ _
      exact { h with }
  case unstage =>
    unfold unstageAction
    split
    · exact h.reply _
    · refine InOrder.reply ?_ _
      exact { h with }
  case readySwitch => exact h.ready_action _
  case readyKeep => exact h.ready_action _
  case unready => exact h.unready
  case readStatus => exact h.replyWith _ _
  case readLog => exact h.readLog
  case readRoster index => exact h.readRoster index
  case readGrants =>
    unfold readGrantsAction
    split
    all_goals exact h.replyWith _ _
  case unassignedCommand code argument =>
    unfold unassignedCommandAction
    split
    · exact h.reply _
    · exact h
  all_goals exact h

/-- A command is taken at its tick, waits for one, or is not taken. -/
theorem handOver (h : InOrder s) (c : Instr) : InOrder (s.handOver c (Machine.portAction c)) := by
  unfold State.handOver
  split
  · exact h
  · next hlow =>
    split
    · next hlost =>
      exact
        { h with
          waits := fun e => by change s.timebase.lost = false at e; rw [hlost] at e; cases e
          held := fun e => absurd e hlow }
    · next hlost => exact h.portAction (by simp [State.ticking, hlow, hlost]) c

/-- The rise of CSN cuts what waits and adds nothing to it (R170). -/
theorem rise (h : InOrder s) {p : Port} (hp : s.port.waiting = [] → p.waiting = []) : InOrder { s with port := p } :=
  { h with
    waits := fun e => ⟨(h.waits e).1, hp (h.waits e).2⟩
    held := fun e => ⟨(h.held e).1, hp (h.held e).2⟩ }

theorem cutWaiting_nil {p : Port} (h : p.waiting = []) : p.cutWaiting = [] := by simp [Port.cutWaiting, h]

theorem noReply (h : InOrder s) : InOrder s.noReply := h.rise cutWaiting_nil

theorem endEarly (h : InOrder s) : InOrder s.endEarly := State.endEarly_elim h h.noReply

theorem handOverImage (h : InOrder s) (size : Nat) (image : List Byte) (c : Instr) :
    InOrder (s.handOverImage size image c (Machine.portAction c)) := by
  unfold State.handOverImage
  split
  · exact h.endEarly
  · exact h.handOver c

theorem refuseByte (h : InOrder s) : InOrder s.refuseByte := by
  unfold State.refuseByte
  split
  · exact h
  · exact h.rise cutWaiting_nil

theorem transactionCutShort (h : InOrder s) (cut : CutPoint) : InOrder (transactionCutShortEffect cut s) := by
  unfold transactionCutShortEffect
  cases cut with
  | acrossReset => exact h
  | beforeTaken => exact h.endEarly
  | inResult =>
    simp only
    split
    · exact h
    · unfold State.loseResult
      exact InOrder.noReply { h with }
  | inData shifted =>
    simp only
    split
    · exact h
    · unfold State.loseData
      split
      · exact { h.rise (p := { s.port.rise with data := s.port.data.take shifted, logTaken := .nothing })
          cutWaiting_nil with }
      · exact h.rise cutWaiting_nil

/-! ### The timebase and the resets -/

theorem closeTick (h : InOrder s) : InOrder s.closeTick := by
  rw [State.closeTick_eq]
  have he := h.elapse 1
  exact { h with phase := he.phase, pull := he.pull, number := he.number }

/-- TCLK is lost: the timebase unlocks, and what waits for a tick may wait (R176, R177). -/
theorem unlocks (h : InOrder s) (hlow : s.rstnLow = false) {lost : Bool} (hl : lost = true) {records : List Record} :
    InOrder { s with
      timebase := { s.timebase with lost, lock := .unlocked, settle := 0, deferredRecords := records } } :=
  { h with
    settle := Nat.zero_le _
    unlocked := fun _ => rfl
    divider := fun e => ⟨rfl, (h.divider e).2⟩
    lost := fun _ => rfl
    waits := fun e => by change lost = false at e; rw [hl] at e; cases e
    held := fun e => by change s.rstnLow = true at e; rw [hlow] at e; cases e }

theorem loseTimebase (h : InOrder s) (hlow : s.rstnLow = false) :
    InOrder { s with timebase := { s.timebase with lost := true } }.loseTimebase := by
  unfold State.loseTimebase
  simp only
  split
  · next hr =>
    have hc : InOrder (s.clearRig .detached (some .timebaseLost) false) :=
      h.clearRig false rfl (by simp) (by simp [StationState.ne_unconfigured_of_inRig hr])
    exact hc.unlocks hlow rfl
  · split
    · next hu =>
      exact
        { h with
          lost := fun _ => (h.divider hu).1
          waits := fun e => by cases e }
    · exact h.unlocks hlow rfl

theorem timebaseLoss (h : InOrder s) : InOrder (timebaseLossEffect s) := by
  unfold timebaseLossEffect
  split
  · exact h
  · simp only
    split
    · next hlow =>
      exact
        { h with
          lost := fun _ => (h.divider (h.held hlow).1).1
          waits := fun e => by cases e }
    · next hlow => exact h.closeTick.loseTimebase (Bool.not_eq_true _ ▸ hlow)

theorem edgesReturn (h : InOrder s) : InOrder s.edgesReturn := by
  have waits : s.edgesReturn.timebase.deferredRecords = [] ∧ s.edgesReturn.port.waiting = [] := by
    unfold State.edgesReturn Timebase.resume
    cases s.profile.isSome <;> exact ⟨rfl, rfl⟩
  have lost : s.edgesReturn.timebase.lost = false := by
    unfold State.edgesReturn Timebase.resume
    cases s.profile.isSome <;> rfl
  cases hp : s.profile.isSome
  · have hs : s.edgesReturn.timebase.settle = s.timebase.settle ∧ s.edgesReturn.timebase.lock = s.timebase.lock ∧
        s.edgesReturn.timebase.divider = s.timebase.divider := by
      simp [State.edgesReturn, Timebase.resume, hp]
    obtain ⟨h1, h2, h3⟩ := hs
    exact
      { h with
        settle := by rw [h1]; exact h.settle
        unlocked := by rw [h1, h2]; exact h.unlocked
        divider := by rw [h2, h3]; exact h.divider
        lost := fun e => by rw [lost] at e; cases e
        waits := fun _ => waits
        held := fun e => ⟨(h.held e).1, waits.2⟩ }
  · have hs : s.edgesReturn.timebase.settle = 0 := by simp [State.edgesReturn, Timebase.resume, hp]
    exact
      { h with
        settle := by rw [hs]; exact Nat.zero_le _
        unlocked := fun _ => hs
        divider := fun e => absurd e (h.profile.1 hp)
        lost := fun e => by rw [lost] at e; cases e
        waits := fun _ => waits
        held := fun e => ⟨(h.held e).1, waits.2⟩ }

theorem firstTick (h : InOrder s) : InOrder s.firstTick :=
  { h.elapse 1 with
    phase := h.phase
    pull := h.pull
    number := h.number }

theorem carryOut (h : InOrder s) (ht : s.ticking = true) (x : Returning) : InOrder (s.carryOut x) := by
  cases x with
  | record r => exact { h with }
  | command c cut =>
    have ha := h.portAction ht c
    unfold State.carryOut State.takeWaiting
    simp only
    split
    · have hw := (h.waits (s.ticking_iff.1 ht).2).2
      exact { ha.rise (p := s.port) (fun _ => hw) with }
    · exact ha

end InOrder

/-- What happens at the first tick after a loss does not stop the ticks. -/
theorem State.carryOut_ticking (s : State) (x : Returning) : (s.carryOut x).ticking = s.ticking := by
  cases x with
  | record r => rfl
  | command c cut =>
    rw [← portAction_ticking c s]
    unfold State.carryOut State.takeWaiting
    simp only
    split <;> rfl

/-- The edges that return give ticks unless RSTN is low. -/
theorem State.edgesReturn_ticking {s : State} (h : s.rstnLow = false) : s.edgesReturn.firstTick.ticking = true := by
  rw [State.firstTick_ticking, State.ticking_iff]
  refine ⟨h, ?_⟩
  unfold State.edgesReturn Timebase.resume
  cases s.profile.isSome <;> rfl

namespace InOrder
variable {s : State}

theorem carryOutAll (h : InOrder s) (ht : s.ticking = true) (order : List Returning) :
    InOrder (order.foldl State.carryOut s) := by
  induction order generalizing s with
  | nil => exact h
  | cons x order ih => exact ih (h.carryOut ht x) (by rw [State.carryOut_ticking]; exact ht)

theorem tclkReturn (h : InOrder s) : InOrder (tclkReturnEffect s) := by
  unfold tclkReturnEffect
  split
  · split
    · exact h.edgesReturn
    · next hlow =>
      exact h.edgesReturn.firstTick.carryOutAll (State.edgesReturn_ticking (by simpa using hlow)) _
  · exact h

theorem settleCountComplete (h : InOrder s) : InOrder (settleCountCompleteEffect s) := by
  unfold settleCountCompleteEffect
  split
  · next hl =>
    have he := h.elapse (Config.settleTicks - s.timebase.settle)
    exact
      { he with
        unlocked := fun e => by cases e
        divider := fun e => by have := (h.divider e).1; rw [hl] at this; cases this
        lost := fun e => by
          have hlost : s.timebase.lost = true := by simpa using e
          have := h.lost hlost; rw [hl] at this; cases this }
  · exact h

theorem hardReset (s : State) : InOrder s.hardReset where
  phase := rfl
  pull := rfl
  number := fun _ => rfl
  fault := by simp [State.hardReset, State.reset]
  profile := by simp [State.hardReset, State.reset]
  join := rfl
  leave := .inl rfl
  adoption := fun _ => rfl
  ready := fun _ => rfl
  outputs := fun _ => ⟨rfl, rfl, by
    change allSettled (Vector.replicate 4 {}) = true
    decide⟩
  rig := fun _ => ⟨rfl, rfl, rfl⟩
  table := fun _ => rfl
  cursor := fun _ => rfl
  settle := Nat.zero_le _
  unlocked := fun _ => rfl
  divider := fun _ => ⟨rfl, rfl⟩
  lost := fun e => by cases e
  waits := fun _ => ⟨rfl, rfl⟩
  held := fun _ => ⟨rfl, rfl⟩

/-! ### Every step -/

theorem exec {t : State} (h : InOrder s) (c : Instr) (he : Machine.exec c s = .next t) : InOrder t := by
  have next {u : State} (hu : InOrder u) (e : (.next u : Result) = .next t) : InOrder t := by injection e with e; exact e ▸ hu
  cases c
  case setProfile image => exact next (h.handOverImage _ _ _) he
  case profileDone => exact next (h.handOver _) he
  case writePlan index image => exact next (h.handOverImage _ _ _) he
  case readPlan index => exact next (h.handOver _) he
  case verify => exact next (h.handOver _) he
  case join start => exact next (h.handOver _) he
  case leaveFrameEnd => exact next (h.handOver _) he
  case leaveSegmentEnd => exact next (h.handOver _) he
  case leaveImmediate => exact next (h.handOver _) he
  case restart => exact next (h.handOver _) he
  case clearFault => exact next (h.handOver _) he
  case stage start => exact next (h.handOver _) he
  case unstage => exact next (h.handOver _) he
  case readySwitch => exact next (h.handOver _) he
  case readyKeep => exact next (h.handOver _) he
  case unready => exact next (h.handOver _) he
  case readStatus => exact next (h.handOver _) he
  case readLog => exact next (h.handOver _) he
  case readRoster index => exact next (h.handOver _) he
  case readGrants => exact next (h.handOver _) he
  case unassignedCommand code argument =>
    refine next ?_ he
    split
    · exact h.handOver (.unassignedCommand code argument)
    · exact h.refuseByte
  case transactionCutShort cut => exact next (h.transactionCutShort cut) he
  case powerOnReset => exact next (hardReset s) he
  case rstnLow =>
    refine next ?_ he
    exact { hardReset s with held := fun _ => ⟨rfl, rfl⟩ }
  case rstnRelease =>
    refine next ?_ he
    exact { h with held := fun e => by cases e }
  case frameLevelChange high => exact next (h.frameLevelChange high) he
  case timebaseLoss => exact next h.timebaseLoss he
  case tclkReturn => exact next h.tclkReturn he
  case verifyWalkConclusion => exact next (h.onTick h.verifyWalkConclusion) he
  case frameMark => exact next (h.onTick h.frameMark) he
  case participantPull => exact next (h.onTick h.participantPull) he
  case minFrameTimeElapsed => exact next (h.onTick h.minFrameTimeElapsed) he
  case holdLimitExpiry => exact next (h.onTick h.holdLimitExpiry) he
  case stallTimerExpiry => exact next (h.onTick h.stallTimerExpiry) he
  case listenTimerExpiry => exact next (h.onTick h.listenTimerExpiry) he
  case foundingPulseEnd => exact next (h.onTick h.foundingPulseEnd) he
  case searchSpanEnd slot low => exact next (h.onTick (h.searchSpanEnd slot low)) he
  case noteCompletion slot r => exact next (h.onTick (h.noteCompletion slot r)) he
  case ownTransmissionStart => exact next (h.onTick h.ownTransmissionStart) he
  case ownNoteCompletion levels => exact next (h.onTick (h.ownNoteCompletion levels)) he
  case partingNoteSend => exact next (h.onTick h.partingNoteSend) he
  case windowEnd => exact next (h.onTick h.windowEnd) he
  case hcodeWordSent => exact next (h.onTick h.hcodeWordSent) he
  case exposureStart hrdy => exact next (h.onTick (h.exposureStart hrdy)) he
  case exposureEnd => exact next (h.onTick h.exposureEnd) he
  case exposuresEnded => exact next (h.onTick h.exposuresEnded) he
  case strobeDelayEnd channel => exact next (h.onTick (h.strobeDelayEnd channel)) he
  case strobeOnEnd channel => exact next (h.onTick (h.strobeOnEnd channel)) he
  case strobeOffEnd channel => exact next (h.onTick (h.strobeOffEnd channel)) he
  case settleCountComplete => exact next (h.onTick h.settleCountComplete) he

theorem tick (h : InOrder s) : InOrder (Machine.tick s) := by
  rcases tick_cases s with ⟨-, e⟩ | ⟨-, -, e⟩ | ⟨-, -, e⟩ <;> rw [e]
  · exact h
  · exact h.elapse 1
  · exact { h with }

end InOrder

/-- Settles O58: every command, event and tick keeps the blocks in agreement. -/
theorem everyStepKeepsTheBlocksInOrder : Obligations.EveryStepKeepsTheBlocksInOrder := by
  intro s t hs he
  rw [State.inOrder_iff] at hs ⊢
  cases hp : s.pending with
  | nil =>
    rw [step_empty hp] at he
    injection he with he
    exact he ▸ hs.tick
  | cons c rest =>
    rw [step_front c rest s hp] at he
    exact (hs.queue rest).exec c he

end Sys2Proof.Machine
end

section
/-! SUPPORT. The reset state and RESTART (O4, O57, O25). -/

namespace Sys2Proof.Machine

/-- The power-on state is the hard reset of itself. -/
theorem State.reset_hardReset : State.reset.hardReset = State.reset := rfl

/-- Settles O57. -/
theorem resetStateIsInOrder : Obligations.ResetStateIsInOrder :=
  ⟨(State.inOrder_iff _).2 (State.reset_hardReset ▸ InOrder.hardReset State.reset), by decide, by decide, rfl⟩

/-- Every generator of a station at rest holds no record (R150). -/
theorem get_idleGenerators (c : Fin 4) : (Vector.replicate 4 ({} : Generator)).get c = {} := vector_get_replicate _ c

/-- At reset every output pin is at its reset level (R179). -/
theorem State.reset_pins :
    State.reset.pins =
      { framePulled := false, noteReleased := (true, true), xtrig := false, hcode := false
        strobes := Vector.replicate 4 false, attn := false, misoDriven := false } := by
  have strobes : (Vector.replicate 4 ({} : Generator)).map Generator.output = Vector.replicate 4 false := by
    rw [Vector.map_replicate]; rfl
  simp only [State.pins, State.reset, strobes]
  rfl

/-- Settles O4. -/
theorem resetStateHoldsTheResetValues : Obligations.ResetStateHoldsTheResetValues := by
  have generators (c : Fin 4) : (State.reset.generators.get c).record = none ∧
      (State.reset.generators.get c).phase = .done ∧ (State.reset.generators.get c).outcome = none := by
    rw [show State.reset.generators.get c = {} from get_idleGenerators c]
    exact ⟨rfl, rfl, rfl⟩
  refine ⟨by decide, ⟨rfl, rfl, rfl, rfl, rfl, rfl, rfl, fun slot => vector_get_replicate _ slot, rfl, rfl⟩, ?_, ?_,
    ⟨fun e => vector_get_replicate _ e, rfl⟩, ?_, ?_, ⟨rfl, rfl, rfl, generators⟩, ⟨rfl, rfl⟩, ?_, State.reset_pins⟩
  all_goals decide

/-- A walk in progress is abandoned (R120). -/
theorem VerifyStatus.abandon_running (since : Nat) : (VerifyStatus.running since).abandon = .idle none := rfl

/-- Every other verify status stands. -/
theorem VerifyStatus.abandon_of_not_running {v : VerifyStatus} (h : ∀ since, v ≠ .running since) : v.abandon = v := by
  cases v with
  | running since => exact absurd rfl (h since)
  | _ => rfl

/-- Settles O25: RESTART clears the rig blocks and appends its one chain of records. -/
theorem restartReturnsTheStation : Obligations.RestartReturnsTheStation := by
  intro s ht
  have run : exec .restart s = .next (restartAction s) := congrArg Host.Outcome.next (State.handOver_ticking ht)
  have log : (restartAction s).log = s.restartRecords.foldl StationLog.append s.log := by
    simp only [restartAction, State.reply_log, State.logChains_one]
    rfl
  exact ⟨restartAction s, run, rfl, rfl, rfl, rfl, rfl, rfl, rfl, rfl, rfl, rfl, rfl, rfl, rfl, get_idleGenerators,
    fun since h => (congrArg VerifyStatus.abandon h).trans (VerifyStatus.abandon_running since),
    VerifyStatus.abandon_of_not_running, log, rfl, rfl, rfl, rfl, rfl⟩

end Sys2Proof.Machine
end

section
/-! SUPPORT. The events of a frame's timers: the pull, the stall and the founding pulse, the hold limit, the release
conditions and the strobe phases (O39, O40, O41, O53, O54). -/

namespace Sys2Proof.Machine

/-! ### An event at a tick -/

/-- With ticks an event has its effect. -/
theorem State.event_next {f : State → State} {s : State} (h : s.ticking = true) :
    (.next (s.onTick f) : Result) = .next (f s) := congrArg _ (State.onTick_ticking h)

/-- With ticks a command is taken. -/
theorem State.command_next {c : Instr} {f : State → State} {s : State} (h : s.ticking = true) :
    (.next (s.handOver c f) : Result) = .next (f s) := congrArg _ (State.handOver_ticking h)

/-! ### The pull (R5) -/

theorem participantPullEffect_due {s : State} (h : s.barrier.pullDue = true) :
    participantPullEffect s =
      { s.advanceTo (s.barrier.markTick + 1) with
        barrier :=
          { (s.advanceTo (s.barrier.markTick + 1)).barrier with pullDue := false, pulled := true, phase := .holding } } :=
  if_pos h

/-- Settles O39. -/
theorem participantPullsFrameAfterTheMark : Obligations.ParticipantPullsFrameAfterTheMark := by
  intro s ht
  constructor
  · intro hd
    refine ⟨participantPullEffect s, State.event_next ht, ?_⟩
    obtain ⟨settle, lows, highs, sampled, marked, e⟩ := s.advanceTo_closed (s.barrier.markTick + 1)
    rw [participantPullEffect_due hd, e]
    and_intros <;> rfl
  · intro hd
    have still : participantPullEffect s = s := if_neg (by simp [hd])
    exact (State.event_next ht).trans (congrArg _ still)

/-! ### The stall limit and the founding pulse (R13, R15) -/

/-- Where a stall is reported (R13). -/
theorem State.stallable_iff (s : State) :
    s.stallable = true ↔
      (s.barrier.phase = .watching ∨ s.barrier.phase = .released) ∧
      (s.membership.state = .founding ∨ s.membership.state = .joining ∨ s.membership.state = .flushing ∨
        s.membership.state = .active ∨ s.membership.state = .leaving) ∧
      s.barrier.pullDue = false ∧ s.barrier.stallReported = false := by
  have states : s.membership.state.inRig = true ∧ s.membership.state ≠ .listening ↔
      (s.membership.state = .founding ∨ s.membership.state = .joining ∨ s.membership.state = .flushing ∨
        s.membership.state = .active ∨ s.membership.state = .leaving) := by
    cases s.membership.state <;> decide
  simp only [State.stallable, Bool.and_eq_true, Bool.or_eq_true, beq_iff_eq, bne_iff_ne, Bool.not_eq_true', ← states,
    and_assoc]

theorem stallTimerExpiryEffect_report {s : State} {start : Nat} (h : s.barrier.stallStart = some start)
    (hs : s.stallable = true) :
    stallTimerExpiryEffect s =
      { s.advanceTo (start + s.stallTicks) with
        barrier := { (s.advanceTo (start + s.stallTicks)).barrier with stallReported := true } }.logChains
        [[(s.advanceTo (start + s.stallTicks)).record .stall]] := by
  simp [stallTimerExpiryEffect, h, hs]

theorem stallTimerExpiryEffect_none {s : State} (hs : s.stallable = false) : stallTimerExpiryEffect s = s := by
  unfold stallTimerExpiryEffect; split
  · simp [hs]
  · rfl

theorem listenTimerExpiryEffect_found {s : State} {start : Nat} (h : s.barrier.stallStart = some start)
    (hl : s.membership.state = .listening) (hm : s.barrier.marked = false) :
    listenTimerExpiryEffect s = (s.advanceTo (start + s.stallTicks)).found := by
  simp [listenTimerExpiryEffect, h, hl, hm]

/-- A mark of the same tick has restarted the timer (R15). -/
theorem listenTimerExpiryEffect_marked {s : State} (hm : s.barrier.marked = true) : listenTimerExpiryEffect s = s := by
  unfold listenTimerExpiryEffect; split
  · simp [hm]
  · rfl

theorem foundingPulseEndEffect_end {s : State} {start : Nat} (h : s.barrier.pulseStart = some start)
    (hb : s.barrier.phase = .pulsing) :
    foundingPulseEndEffect s =
      { s.advanceTo (start + s.prof.slotTime) with
        barrier :=
          { (s.advanceTo (start + s.prof.slotTime)).barrier with
            phase := .watching, pulled := false, pulseStart := none
            stallStart := some (s.advanceTo (start + s.prof.slotTime)).now } } := by
  simp [foundingPulseEndEffect, h, hb]

/-- Settles O41. -/
theorem stallsAreReportedOnceAndAListenerFounds : Obligations.StallsAreReportedOnceAndAListenerFounds := by
  intro start s ht
  refine ⟨fun hstart => ⟨fun hs hb hd hr => ?_, fun hr => ?_⟩, fun _ hm => ?_, fun hl hm hstart => ?_, fun hb hp => ?_⟩
  · have hst : s.stallable = true := s.stallable_iff.2 ⟨hb, by tauto, hd, hr⟩
    refine ⟨stallTimerExpiryEffect s, State.event_next ht, ?_⟩
    obtain ⟨settle, lows, highs, sampled, marked, e⟩ := s.advanceTo_closed (start + s.stallTicks)
    rw [stallTimerExpiryEffect_report hstart hst, State.logChains_one, e]
    and_intros <;> rfl
  · have hst : s.stallable = false := by
      rw [← Bool.not_eq_true, s.stallable_iff]
      rintro ⟨-, -, -, hno⟩
      rw [hr] at hno; cases hno
    exact (State.event_next ht).trans (congrArg _ (stallTimerExpiryEffect_none hst))
  · exact (State.event_next ht).trans (congrArg _ (listenTimerExpiryEffect_marked hm))
  · refine ⟨listenTimerExpiryEffect s, State.event_next ht, ?_⟩
    obtain ⟨settle, lows, highs, sampled, marked, e⟩ := s.advanceTo_closed (start + s.stallTicks)
    rw [listenTimerExpiryEffect_found hstart hl hm, e]
    and_intros <;> rfl
  · refine ⟨foundingPulseEndEffect s, State.event_next ht, ?_⟩
    obtain ⟨settle, lows, highs, sampled, marked, e⟩ := s.advanceTo_closed (start + s.prof.slotTime)
    rw [foundingPulseEndEffect_end hp hb, e]
    and_intros <;> rfl

/-! ### Cutting generators (R153) -/

theorem Generator.cutNow_of_settled {g : Generator} (h : g.settled = true) : g.cutNow = g := if_pos h

theorem Generator.cutNow_of_running {g : Generator} (h : g.settled = false) :
    g.cutNow = { g with phase := .cut, phaseEnd := none, outcome := some .cut } := if_neg (by simp [h])

/-- What is cut is settled. -/
theorem Generator.cutNow_settled (g : Generator) : g.cutNow.settled = true := by
  cases h : g.settled
  · rw [Generator.cutNow_of_running h]; rfl
  · rw [Generator.cutNow_of_settled h, h]

/-- A settled generator stays as it is, any other is CUT with its record. -/
theorem get_cutNow (gens : Vector Generator 4) (c : Fin 4) :
    ((gens.get c).settled = true → (gens.map Generator.cutNow).get c = gens.get c) ∧
    ((gens.get c).settled = false →
      ((gens.map Generator.cutNow).get c).phase = .cut ∧ ((gens.map Generator.cutNow).get c).outcome = some .cut ∧
        ((gens.map Generator.cutNow).get c).record = (gens.get c).record) := by
  rw [vector_get_map]
  exact ⟨Generator.cutNow_of_settled, fun h => by rw [Generator.cutNow_of_running h]; exact ⟨rfl, rfl, rfl⟩⟩

/-- A second cut finds nothing to cut. -/
theorem cutNow_cutNow (gens : Vector Generator 4) :
    (gens.map Generator.cutNow).map Generator.cutNow = gens.map Generator.cutNow := by
  rw [Vector.map_map]
  refine congrArg (Vector.map · gens) (funext fun g => ?_)
  exact Generator.cutNow_of_settled g.cutNow_settled

/-! ### The hold limit (R9, R10, R153) -/

/-- The frame as the forced release leaves it: every strobe cut, the outputs off, LATE. -/
def State.forced (s : State) : State :=
  { s.cutGenerators.stopSequencer with barrier := { s.barrier with late := true } }

theorem State.forcedRelease_released {s : State} (hb : s.barrier.phase ≠ .draining) (hl : s.membership.state ≠ .leaving) :
    s.forcedRelease = s.forced.releaseLine := by
  unfold State.forcedRelease State.releaseFrame
  exact (if_neg hb).trans (if_neg hl)

theorem State.forcedRelease_standby {s : State}
    (h : s.barrier.phase = .draining ∨ s.barrier.phase = .holding ∧ s.membership.state = .leaving) :
    s.forcedRelease = s.forced.enterStandby (some (s.barrier.phase == .draining)) [] := by
  unfold State.forcedRelease State.releaseFrame
  rcases h with hb | ⟨hb, hl⟩
  · exact (if_pos hb).trans (by rw [hb]; rfl)
  · exact (if_neg (by rw [hb]; decide)).trans ((if_pos hl).trans (by rw [hb]; rfl))

theorem holdLimitExpiryEffect_forces {s : State} {start : Nat} (h : s.barrier.holdStart = some start)
    (hb : s.barrier.phase = .holding ∨ s.barrier.phase = .draining) :
    holdLimitExpiryEffect s = (s.advanceTo (start + s.holdTicks)).forcedRelease := by
  simp [holdLimitExpiryEffect, h, hb]

/-- What a FRAME record is made of (R158, R161, R165). -/
theorem State.frameRecord_congr {s t : State} (truncated : Bool) (current : t.cursor.current = s.cursor.current)
    (skipped : t.sequencer.burstSkipped = s.sequencer.burstSkipped) (made : t.sequencer.made = s.sequencer.made)
    (skipAt : t.sequencer.skipAt = s.sequencer.skipAt) (late : t.barrier.late = s.barrier.late)
    (runFrame : t.barrier.runFrame = s.barrier.runFrame) (runEpoch : t.barrier.runEpoch = s.barrier.runEpoch)
    (turn : t.resolver.turnMark = s.resolver.turnMark) (inUse : t.resolver.inUse = s.resolver.inUse)
    (generators : t.generators = s.generators) (profile : t.profile = s.profile) :
    t.frameRecord truncated = s.frameRecord truncated := by
  have outcome : t.frameOutcome = s.frameOutcome := by rw [State.frameOutcome, State.frameOutcome, current, skipped]
  have plan : t.framePlan = s.framePlan := by rw [State.framePlan, State.framePlan, current]
  have short : t.sequencer.shortBurst = s.sequencer.shortBurst := by
    rw [Sequencer.shortBurst, Sequencer.shortBurst, skipAt]
  have report : t.frameReport truncated = s.frameReport truncated := by
    rw [State.frameReport, State.frameReport, outcome, plan, short, made, late, turn, inUse, generators]
  rw [State.frameRecord, State.frameRecord, report, runFrame, runEpoch, State.prof, State.prof, profile]

/-- The FRAME record of a forced release reports the frame cut and LATE (R158). -/
theorem State.forced_frameRecord (truncated : Bool) (s : State) :
    s.forced.cutGenerators.frameRecord truncated =
      ({ s.cutGenerators with barrier := { s.barrier with late := true } } : State).frameRecord truncated := by
  exact State.frameRecord_congr truncated rfl rfl rfl rfl rfl rfl rfl rfl rfl (cutNow_cutNow _) rfl

/-- Entry to STANDBY without other records appends the FRAME record and then LEFT (R90). -/
theorem State.enterStandby_log (truncated : Bool) (s : State) :
    (s.enterStandby (some truncated) []).log =
      (s.cutGenerators.frameRecord truncated ++ [s.record .left]).foldl StationLog.append s.log := by
  simp only [State.enterStandby, List.nil_append, State.logChains_one, State.clearRig_log]

/-- Settles O40. -/
theorem holdLimitForcesTheRelease : Obligations.HoldLimitForcesTheRelease := by
  intro start s ht hstart
  obtain ⟨settle, lows, highs, sampled, marked, e⟩ := s.advanceTo_closed (start + s.holdTicks)
  have hphase : (s.advanceTo (start + s.holdTicks)).barrier.phase = s.barrier.phase := Barrier.elapse_phase _ _ _
  refine ⟨fun hb hl => ⟨holdLimitExpiryEffect s, State.event_next ht, ?_⟩,
    fun hs => ⟨holdLimitExpiryEffect s, State.event_next ht, ?_⟩⟩
  · rw [holdLimitExpiryEffect_forces hstart (.inl hb),
      State.forcedRelease_released (s := s.advanceTo _) (by rw [hphase, hb]; decide) hl, e]
    exact ⟨rfl, rfl, rfl, rfl, rfl, rfl, rfl, rfl, rfl, get_cutNow s.generators, rfl, rfl, rfl, rfl, rfl, rfl, rfl, rfl⟩
  · have hhold : s.barrier.phase = .holding ∨ s.barrier.phase = .draining := by tauto
    rw [holdLimitExpiryEffect_forces hstart hhold, 
      State.forcedRelease_standby (s := s.advanceTo _) (by rw [hphase]; exact hs), hphase]
    refine ⟨rfl, rfl, rfl, rfl, get_idleGenerators, ?_, rfl, rfl⟩
    rw [State.enterStandby_log, State.forced_frameRecord, e]
    rfl

/-! ### The release conditions (R6 to R8) -/

theorem Barrier.allMet_iff (b : Barrier) :
    b.allMet = true ↔
      b.windowDone = true ∧ b.minTimeDone = true ∧ b.exposuresDone = true ∧ b.strobesDone = true := by
  simp [Barrier.allMet, and_assoc]

/-- The last of the four release conditions is in hand at a station that holds FRAME (R8). -/
def Barrier.last (b : Barrier) : Prop := b.phase = .holding ∧ b.allMet = true

theorem State.finish_of_not_last {s : State} (h : ¬ s.barrier.last) (chains : List (List Record)) :
    s.finish chains = s.logChains chains := if_neg h

theorem State.finish_of_last {s : State} (h : s.barrier.last) (hl : s.membership.state ≠ .leaving)
    (chains : List (List Record)) : s.finish chains = s.releaseLine.logChains chains := by
  unfold State.finish State.releaseFrame
  exact (if_pos h).trans (if_neg hl)

theorem State.finish_of_last_leaving {s : State} (h : s.barrier.last) (hl : s.membership.state = .leaving)
    (chains : List (List Record)) : s.finish chains = s.enterStandby (some false) chains := by
  unfold State.finish State.releaseFrame
  exact (if_pos h).trans (if_pos hl)

/-- What the end of the minimum frame time and of the exposures change before the release is judged: the clock and what
follows it, and the two conditions (R6, R149). -/
structure MeetsCondition (c : Instr) (s u : State) : Prop where
  frame : ∃ now settle lows highs sampled marked minTimeDone minTimeDue exposuresDone,
    u =
      { s with
        now
        timebase := { s.timebase with settle }
        barrier := { s.barrier with lows, highs, sampled, marked, minTimeDone, minTimeDue, exposuresDone } }
  run : exec c s = .next (u.finish [])
  clock : ∀ due, c = .minFrameTimeElapsed → s.barrier.minTimeDue = some due → u.now = max s.now due
  still : c = .exposuresEnded → u.now = s.now
  minTime : c = .minFrameTimeElapsed → u.barrier.minTimeDone = true ∧ u.barrier.minTimeDue = none ∧
    u.barrier.exposuresDone = s.barrier.exposuresDone
  exposures : c = .exposuresEnded → u.barrier.exposuresDone = true ∧ u.barrier.minTimeDone = s.barrier.minTimeDone

theorem minFrameTime_meets {s : State} {due : Nat} (ht : s.ticking = true) (ho : s.frameOpen = true)
    (hd : s.barrier.minTimeDue = some due) : ∃ u, MeetsCondition .minFrameTimeElapsed s u := by
  refine ⟨{ s.advanceTo due with
    barrier := { (s.advanceTo due).barrier with minTimeDone := true, minTimeDue := none } }, ?_⟩
  obtain ⟨settle, lows, highs, sampled, marked, e⟩ := s.advanceTo_closed due
  have run : minFrameTimeElapsedEffect s = ({ s.advanceTo due with
      barrier := { (s.advanceTo due).barrier with minTimeDone := true, minTimeDue := none } } : State).finish [] := by
    simp only [minFrameTimeElapsedEffect, hd, ho, if_true]
  refine ⟨?_, (State.event_next ht).trans (congrArg _ run), ?_, nofun, fun _ => ⟨rfl, rfl, ?_⟩, nofun⟩
  · rw [e]; exact ⟨_, _, _, _, _, _, _, _, _, rfl⟩
  · intro due' _ hd'
    rw [hd] at hd'; injection hd' with hd'
    rw [← hd', e]
  · rw [e]

theorem exposures_meet {s : State} (ht : s.ticking = true) (hw : s.awaitsReady = true) :
    ∃ u, MeetsCondition .exposuresEnded s u := by
  refine ⟨{ s with barrier := { s.barrier with exposuresDone := true } }, ?_⟩
  have run : exposuresEndedEffect s =
      ({ s with barrier := { s.barrier with exposuresDone := true } } : State).finish [] := if_pos hw
  exact ⟨⟨_, _, _, _, _, _, _, _, _, rfl⟩, (State.event_next ht).trans (congrArg _ run), fun _ => nofun, fun _ => rfl,
    nofun, fun _ => ⟨rfl, rfl⟩⟩

/-- Where the exposure condition waits for HRDY alone (R149). -/
theorem State.awaitsReady_of {s : State} (ho : s.frameOpen = true) (hd : s.barrier.exposuresDone = false)
    (h : (∃ e, s.cursor.current = some (.settle e) ∧ s.sequencer.headWord = none) ∨
      ((∃ e, s.cursor.current = some (.apply e) ∨ s.cursor.current = some (.flush e)) ∧
        (s.sequencer.skipAt.isSome = true ∨
          (s.sequencer.started = s.sequencer.schedule.length ∧ s.sequencer.xtrig = false)))) :
    s.awaitsReady = true := by
  rcases h with ⟨e, hc, hw⟩ | ⟨⟨e, hc | hc⟩, hs⟩
  · simp [State.awaitsReady, ho, hd, hc, hw]
  · simpa [State.awaitsReady, ho, hd, hc] using hs
  · simpa [State.awaitsReady, ho, hd, hc] using hs

/-- Settles O53. -/
theorem theLastConditionReleasesFrame : Obligations.TheLastConditionReleasesFrame := by
  intro c s ht hopen hc
  have ho : s.frameOpen = true := by simpa [State.frameOpen] using hopen
  obtain ⟨u, hu⟩ : ∃ u, MeetsCondition c s u := by
    rcases hc with ⟨rfl, hd⟩ | ⟨rfl, hd, hw⟩
    · obtain ⟨due, hd⟩ := Option.isSome_iff_exists.1 hd
      exact minFrameTime_meets ht ho hd
    · exact exposures_meet ht (State.awaitsReady_of ho hd hw)
  obtain ⟨now, settle, lows, highs, sampled, marked, minTimeDone, minTimeDue, exposuresDone, hframe⟩ := hu.frame
  have hlast : (s.barrier.phase = .holding ∧ s.barrier.windowDone = true ∧ s.barrier.strobesDone = true ∧
      (c = .exposuresEnded ∨ s.barrier.exposuresDone = true) ∧
      (c = .minFrameTimeElapsed ∨ s.barrier.minTimeDone = true)) ↔ u.barrier.last := by
    have hfields : u.barrier.phase = s.barrier.phase ∧ u.barrier.windowDone = s.barrier.windowDone ∧
        u.barrier.strobesDone = s.barrier.strobesDone := by rw [hframe]; exact ⟨rfl, rfl, rfl⟩
    obtain ⟨h1, h2, h3⟩ := hfields
    rw [Barrier.last, Barrier.allMet_iff, h1, h2, h3]
    rcases hc with ⟨rfl, -⟩ | ⟨rfl, -⟩
    · obtain ⟨hm, -, he⟩ := hu.minTime rfl
      simp only [hm, he, reduceCtorEq, false_or, true_or]
      tauto
    · obtain ⟨he, hm⟩ := hu.exposures rfl
      simp only [hm, he, reduceCtorEq, false_or, true_or]
      tauto
  simp only [hlast]
  refine ⟨_, hu.run, ?_⟩
  have hclock := hu.clock
  have hstill := hu.still
  have hmin := hu.minTime
  have hexp := hu.exposures
  by_cases hl : u.barrier.last
  · by_cases hs : s.membership.state = .leaving
    · have hul : u.membership.state = .leaving := by rw [hframe]; exact hs
      rw [State.finish_of_last_leaving hl hul]
      refine ⟨fun hm due hd => hclock due hm hd, hstill, fun h => absurd ⟨hl, hs⟩ h, fun h => absurd hl h,
        fun _ h => absurd hs h, fun _ _ => ⟨rfl, rfl, rfl, rfl, rfl, rfl, ?_⟩, ?_⟩
      · rw [State.enterStandby_log, hframe]; rfl
      · rw [hframe]; exact ⟨rfl, rfl, rfl, rfl⟩
    · have hul : u.membership.state ≠ .leaving := by rw [hframe]; exact hs
      rw [State.finish_of_last hl hul, State.logChains_nil]
      refine ⟨fun hm due hd => hclock due hm hd, hstill, fun _ => ⟨hmin, hexp, ?_⟩, fun h => absurd hl h,
        fun _ _ => ⟨rfl, rfl, rfl⟩, fun _ h => absurd h hs, ?_⟩
      · rw [hframe]; and_intros <;> rfl
      · rw [hframe]; exact ⟨rfl, rfl, rfl, rfl⟩
  · rw [State.finish_of_not_last hl, State.logChains_nil]
    refine ⟨fun hm due hd => hclock due hm hd, hstill, fun _ => ⟨hmin, hexp, ?_⟩, fun _ => ?_,
      fun h => absurd h hl, fun h => absurd h hl, ?_⟩
    all_goals rw [hframe]
    · and_intros <;> rfl
    · exact ⟨rfl, rfl⟩
    · exact ⟨rfl, rfl, rfl, rfl⟩

end Sys2Proof.Machine
end

section
/-! SUPPORT. The ends of the strobe phases (R151, R154): O54. -/

namespace Sys2Proof.Machine

/-! ### One generator among four -/

theorem State.setGenerator_get (channel : Fin 4) (g : Generator) (s : State) :
    (s.setGenerator channel g).generators.get channel = g := vector_get_set_same _ _ _

theorem State.setGenerator_get_other {channel c : Fin 4} (h : c ≠ channel) (g : Generator) (s : State) :
    (s.setGenerator channel g).generators.get c = s.generators.get c := vector_get_set_other _ _ h

theorem Generator.settled_iff (g : Generator) : g.settled = true ↔ g.phase = .done ∨ g.phase = .cut := by
  simp [Generator.settled]

/-- With one generator replaced, all are settled when it is and the others are. -/
theorem allSettled_setGenerator (channel : Fin 4) (g : Generator) (s : State) :
    allSettled (s.setGenerator channel g).generators = true ↔
      g.settled = true ∧ ∀ c, c ≠ channel → (s.generators.get c).settled = true := by
  rw [allSettled_iff]
  constructor
  · intro h
    refine ⟨by rw [← State.setGenerator_get channel g s]; exact h channel, fun c hc => ?_⟩
    rw [← State.setGenerator_get_other hc g s]; exact h c
  · rintro ⟨hg, ho⟩ c
    by_cases hc : c = channel
    · rw [hc, State.setGenerator_get]; exact hg
    · rw [State.setGenerator_get_other hc]; exact ho c hc

/-- With one generator replaced by one that is not ON, the others decide whether any is. -/
theorem anyOn_setGenerator {channel : Fin 4} {g : Generator} (hg : g.phase ≠ .on) (s : State) :
    anyOn (s.setGenerator channel g).generators = true ↔ ∃ c, c ≠ channel ∧ (s.generators.get c).phase = .on := by
  rw [anyOn_iff]
  constructor
  · rintro ⟨c, hc⟩
    by_cases he : c = channel
    · rw [he, State.setGenerator_get] at hc; exact absurd hc hg
    · rw [State.setGenerator_get_other he] at hc; exact ⟨c, he, hc⟩
  · rintro ⟨c, he, hc⟩
    exact ⟨c, by rw [State.setGenerator_get_other he]; exact hc⟩

theorem Generator.enterOn_eq {g : Generator} {r : StrobeRecord} (h : g.record = some r) (t : Nat) :
    g.enterOn t = { g with phase := .on, pulsesLeft := g.pulsesLeft - 1, phaseEnd := some (t + r.onTime) } := by
  simp [Generator.enterOn, h]

theorem Generator.endOn_off {g : Generator} {r : StrobeRecord} (h : g.record = some r) (hp : 0 < g.pulsesLeft)
    (t : Nat) : g.endOn t = { g with phase := .off, phaseEnd := some (t + r.offTime) } := by
  simp [Generator.endOn, h, Nat.pos_iff_ne_zero.1 hp]

theorem Generator.endOn_done {g : Generator} (h : g.pulsesLeft = 0) (t : Nat) : g.endOn t = g.complete := if_pos h

/-- The end of an ON phase in a drain: the last pulse's as run, any other as cut (R154). -/
theorem Generator.endOnDraining_eq {g : Generator} (h : g.phase = .on) :
    g.endOnDraining =
      if g.pulsesLeft = 0 then g.complete else { g with phase := .cut, phaseEnd := none, outcome := some .cut } := by
  have hrun : g.settled = false := by simp [Generator.settled, h]
  rw [Generator.endOnDraining, Generator.cutNow_of_running hrun]

theorem Generator.endOnDraining_phase {g : Generator} (h : g.phase = .on) : g.endOnDraining.phase ≠ .on := by
  rw [Generator.endOnDraining_eq h]
  split <;> simp [Generator.complete]

/-! ### The phase ends as state changes -/

/-- A phase end that changes one generator and, with time, the clock and what follows it. -/
def State.strobeEnd (stop : Nat) (channel : Fin 4) (g : Generator) (s : State) : State :=
  (s.advanceTo stop).setGenerator channel g

theorem State.phaseEndOf_eq {s : State} {channel : Fin 4} {x : StrobePhase} {stop : Nat}
    (hx : (s.generators.get channel).phase = x) (he : (s.generators.get channel).phaseEnd = some stop) :
    s.phaseEndOf channel x = some stop := by
  simp [State.phaseEndOf, hx, he]

theorem strobeDelayEndEffect_on {s : State} {channel : Fin 4} {stop : Nat}
    (h : s.phaseEndOf channel .delay = some stop) :
    strobeDelayEndEffect channel s = s.strobeEnd stop channel ((s.generators.get channel).enterOn stop) := by
  simp only [strobeDelayEndEffect, h]; rfl

theorem strobeOffEndEffect_on {s : State} {channel : Fin 4} {stop : Nat} (h : s.phaseEndOf channel .off = some stop) :
    strobeOffEndEffect channel s = s.strobeEnd stop channel ((s.generators.get channel).enterOn stop) := by
  simp only [strobeOffEndEffect, h]; rfl

theorem strobeOnEndEffect_running {s : State} {channel : Fin 4} {stop : Nat}
    (h : s.phaseEndOf channel .on = some stop) (hb : s.barrier.phase ≠ .draining) :
    strobeOnEndEffect channel s =
      (s.strobeEnd stop channel ((s.generators.get channel).endOn stop)).reportStrobes.finish [] := by
  have hb' : (s.advanceTo stop).barrier.phase ≠ .draining := by simpa using hb
  simp only [strobeOnEndEffect, h, hb', if_false]; rfl

theorem strobeOnEndEffect_draining {s : State} {channel : Fin 4} {stop : Nat}
    (h : s.phaseEndOf channel .on = some stop) (hb : s.barrier.phase = .draining) :
    strobeOnEndEffect channel s =
      (s.strobeEnd stop channel (s.generators.get channel).endOnDraining).finishDrain := by
  have hb' : (s.advanceTo stop).barrier.phase = .draining := by simpa using hb
  simp only [strobeOnEndEffect, h, hb', if_true]; rfl

/-- What a phase end leaves: every item but the generators, the clock and what follows it. -/
theorem State.strobeEnd_frame (stop : Nat) (channel : Fin 4) (g : Generator) (s : State) :
    ∃ settle lows highs sampled marked,
      s.strobeEnd stop channel g =
        { s.setGenerator channel g with
          now := max s.now stop
          timebase := { s.timebase with settle }
          barrier := { s.barrier with lows, highs, sampled, marked } } := by
  obtain ⟨settle, lows, highs, sampled, marked, e⟩ := s.advanceTo_closed stop
  refine ⟨settle, lows, highs, sampled, marked, ?_⟩
  rw [State.strobeEnd, e]; rfl

/-- With the fourth condition not met before, it is met when every generator is settled. -/
theorem State.strobeEnd_strobesDone {s : State} {stop : Nat} {channel : Fin 4} {g : Generator}
    (h : s.barrier.strobesDone = false) :
    (s.strobeEnd stop channel g).reportStrobes.barrier.strobesDone = true ↔
      g.settled = true ∧ ∀ c, c ≠ channel → (s.generators.get c).phase = .done ∨ (s.generators.get c).phase = .cut := by
  have hs : (s.strobeEnd stop channel g).barrier.strobesDone = false := by simpa [State.strobeEnd] using h
  simp only [← Generator.settled_iff, State.reportStrobes, hs, Bool.false_or]
  exact allSettled_setGenerator channel g (s.advanceTo stop)

/-- Settles O54. -/
theorem strobePhasesFollowTheirRecord : Obligations.StrobePhasesFollowTheirRecord := by
  refine ⟨⟨rfl, rfl⟩, ?_⟩
  intro channel stop r s ht hend hrec
  refine ⟨?_, fun hon hb hd => ⟨fun hp => ?_, fun hp => ?_⟩, fun hon hb => ?_⟩
  · intro c hc
    refine ⟨s.strobeEnd stop channel ((s.generators.get channel).enterOn stop), ?_, ?_⟩
    · rcases hc with ⟨hx, rfl⟩ | ⟨hx, rfl⟩
      · exact (State.event_next ht).trans (congrArg _ (strobeDelayEndEffect_on (State.phaseEndOf_eq hx hend)))
      · exact (State.event_next ht).trans (congrArg _ (strobeOffEndEffect_on (State.phaseEndOf_eq hx hend)))
    · rw [Generator.enterOn_eq hrec]
      refine ⟨State.setGenerator_get _ _ _, fun c' hc' => State.setGenerator_get_other hc' _ _, ?_⟩
      obtain ⟨settle, lows, highs, sampled, marked, e⟩ := s.strobeEnd_frame stop channel _
      rw [e]
      and_intros <;> rfl
  · have hrun := strobeOnEndEffect_running (State.phaseEndOf_eq hon hend) hb
    rw [Generator.endOn_off hrec hp] at hrun
    have hdone := State.strobeEnd_strobesDone (stop := stop) (channel := channel)
      (g := { s.generators.get channel with phase := .off, phaseEnd := some (stop + r.offTime) }) hd
    have hnot := hdone.not.2 fun h => by simp [Generator.settled] at h
    rw [State.finish_of_not_last fun h => hnot ((Barrier.allMet_iff _).1 h.2).2.2.2, State.logChains_nil] at hrun
    refine ⟨_, (State.event_next ht).trans (congrArg _ hrun), State.setGenerator_get _ _ _,
      fun c hc => State.setGenerator_get_other hc _ _, ?_, ?_, Bool.not_eq_true _ ▸ hnot⟩
    all_goals
      obtain ⟨settle, lows, highs, sampled, marked, e⟩ := s.strobeEnd_frame stop channel
        { s.generators.get channel with phase := .off, phaseEnd := some (stop + r.offTime) }
      rw [e]
    · and_intros <;> rfl
    · rfl
  · have hrun := strobeOnEndEffect_running (State.phaseEndOf_eq hon hend) hb
    rw [Generator.endOn_done hp] at hrun
    have hall : (s.strobeEnd stop channel (s.generators.get channel).complete).reportStrobes.barrier.strobesDone = true ↔
        ∀ c, c ≠ channel → (s.generators.get c).phase = .done ∨ (s.generators.get c).phase = .cut := by
      rw [State.strobeEnd_strobesDone hd]
      exact and_iff_right rfl
    have hlast : ((∀ c, c ≠ channel → (s.generators.get c).phase = .done ∨ (s.generators.get c).phase = .cut) ∧
        s.barrier.phase = .holding ∧ s.barrier.windowDone = true ∧ s.barrier.minTimeDone = true ∧
        s.barrier.exposuresDone = true) ↔
        (s.strobeEnd stop channel (s.generators.get channel).complete).reportStrobes.barrier.last := by
      rw [Barrier.last, Barrier.allMet_iff, hall]
      simp only [State.reportStrobes, State.strobeEnd, State.setGenerator_barrier, State.advanceTo_barrier,
        Barrier.elapse_phase, Barrier.elapse_windowDone, Barrier.elapse_minTimeDone, Barrier.elapse_exposuresDone]
      tauto
    obtain ⟨settle, lows, highs, sampled, marked, e⟩ :=
      s.strobeEnd_frame stop channel (s.generators.get channel).complete
    simp only [hlast]
    simp only [← hall]
    refine ⟨_, (State.event_next ht).trans (congrArg _ hrun), ?_⟩
    by_cases hl : (s.strobeEnd stop channel (s.generators.get channel).complete).reportStrobes.barrier.last
    · by_cases hs : s.membership.state = .leaving
      · rw [State.finish_of_last_leaving hl hs]
        refine ⟨fun h => absurd ⟨hl, hs⟩ h, fun h => absurd hl h, fun _ h => absurd hs h,
          fun _ _ => ⟨rfl, rfl, rfl, ?_⟩⟩
        rw [State.enterStandby_log, e]; rfl
      · rw [State.finish_of_last hl hs, State.logChains_nil]
        refine ⟨fun _ => ⟨State.setGenerator_get _ _ _, fun c hc => State.setGenerator_get_other hc _ _, ?_, Iff.rfl⟩,
          fun h => absurd hl h, fun _ _ => ⟨rfl, rfl⟩, fun _ h => absurd h hs⟩
        rw [e]; and_intros <;> rfl
    · rw [State.finish_of_not_last hl, State.logChains_nil]
      refine ⟨fun _ => ⟨State.setGenerator_get _ _ _, fun c hc => State.setGenerator_get_other hc _ _, ?_, Iff.rfl⟩,
        fun _ => ?_, fun h => absurd h hl, fun h => absurd h hl⟩
      all_goals rw [e]
      · and_intros <;> rfl
      · exact ⟨rfl, rfl⟩
  · have hrun := strobeOnEndEffect_draining (State.phaseEndOf_eq hon hend) hb
    refine ⟨_, (State.event_next ht).trans (congrArg _ hrun), ?_⟩
    have hany := anyOn_setGenerator (Generator.endOnDraining_phase hon) (s.advanceTo stop) (channel := channel)
    have heq := Generator.endOnDraining_eq hon
    obtain ⟨settle, lows, highs, sampled, marked, e⟩ :=
      s.strobeEnd_frame stop channel (s.generators.get channel).endOnDraining
    rcases (s.strobeEnd stop channel (s.generators.get channel).endOnDraining).finishDrain_cases with
      ⟨hgo, hd⟩ | ⟨hgo, hd⟩ <;> rw [hd]
    · refine ⟨fun _ => ⟨?_, fun c hc => State.setGenerator_get_other hc _ _, ?_,
        (State.setGenerator_get _ _ _).trans heq⟩, fun h => ?_⟩
      · rw [e]; exact hb
      · rw [e]; and_intros <;> rfl
      · obtain ⟨c, hc, hon'⟩ := hany.1 hgo
        exact absurd hon' (h c hc)
    · refine ⟨fun h => ?_, fun _ => ⟨rfl, rfl, rfl, ?_⟩⟩
      · exact absurd ((hany.2 h).symm.trans hgo) (by decide)
      · rw [State.enterStandby_log, e, heq]; rfl

end Sys2Proof.Machine
end

section
/-! SUPPORT. LEAVE before FLUSHING and LEAVE(IMMEDIATE) (R11, R27, R88 to R90): O21, O24. -/

namespace Sys2Proof.Machine

/-! ### LEAVE in LISTENING, FOUNDING and JOINING (R89) -/

/-- Every LEAVE mode is the early leave before FLUSHING. -/
theorem exec_leaveEarly {c : Instr} {s : State} (hc : c = .leaveFrameEnd ∨ c = .leaveSegmentEnd ∨ c = .leaveImmediate)
    (ht : s.ticking = true)
    (hs : s.membership.state = .listening ∨ s.membership.state = .founding ∨ s.membership.state = .joining) :
    exec c s = .next (s.leaveEarly.reply .accepted) := by
  rcases hc with rfl | rfl | rfl <;> refine (State.command_next ht).trans (congrArg _ ?_)
  · rcases hs with h | h | h <;> simp only [leaveFrameEndAction, h]
  · rcases hs with h | h | h <;> simp only [leaveSegmentEndAction, h]
  · rcases hs with h | h | h <;> simp only [leaveImmediateAction, h]

/-- The station as the early leave finds it: a JOIN note in progress is cut (R27). -/
def State.withoutJoinNote (s : State) : State :=
  { s with
    transceiver :=
      { s.transceiver with sending := if s.membership.state = .joining then none else s.transceiver.sending } }

theorem State.leaveEarly_eq (s : State) : s.leaveEarly = s.withoutJoinNote.enterStandby none [] := by
  unfold State.leaveEarly State.withoutJoinNote
  by_cases h : s.membership.state = .joining <;> simp [h]

/-- Entry to STANDBY without a FRAME record appends LEFT alone (R90). -/
theorem State.enterStandby_log_left (s : State) : (s.enterStandby none []).log = s.log.append (s.record .left) := by
  simp only [State.enterStandby, List.nil_append, State.logChains_one, State.clearRig_log, List.foldl_cons, List.foldl_nil]

/-- Of the transceiver only a note that stands or goes out unjudged is left, with its window timer (R27). -/
theorem State.leaveEarly_transceiver (s : State) :
    s.leaveEarly.transceiver =
      { windowStart :=
          if s.transceiver.parting.isSome = true ∨
              (s.membership.state ≠ .joining ∧ s.transceiver.sending.isSome = true ∧ s.transceiver.windowOpen = false) then
            s.transceiver.windowStart
          else none
        parting := s.transceiver.parting
        sending :=
          if s.membership.state = .joining then none
          else s.transceiver.sending.map fun x => { x with judged := false } } := by
  rw [State.leaveEarly_eq]
  by_cases h : s.membership.state = .joining <;>
    simp [State.enterStandby, State.clearRig, State.withoutJoinNote, Transceiver.partingTimed, h]

/-- Settles O21. -/
theorem leaveBeforeFlushingEntersStandby : Obligations.LeaveBeforeFlushingEntersStandby := by
  intro c s hc ht hs
  refine ⟨s.leaveEarly.reply .accepted, exec_leaveEarly hc ht hs, rfl, rfl, ?_⟩
  have hx := s.leaveEarly_transceiver
  have hlog := s.withoutJoinNote.enterStandby_log_left
  rw [← State.leaveEarly_eq] at hlog
  have sent (hj : s.membership.state = .joining) : s.leaveEarly.transceiver.sending = none := by
    rw [hx]; simp [hj]
  rw [State.reply_transceiver, State.reply_log]
  refine ⟨?_, ?_, ?_, ?_, ?_, ?_, ?_, ?_, ?_, ?_, ?_, ?_, ?_, ?_, by rw [hx], hx, sent, hlog, ?_⟩
  all_goals rw [State.leaveEarly_eq]
  case refine_14 => exact get_idleGenerators
  all_goals and_intros <;> rfl

/-! ### LEAVE(IMMEDIATE) (R11, R88, R154) -/

theorem Generator.leaveCut_complete {g : Generator} {r : StrobeRecord} (hp : g.phase = .on) (hr : g.record = some r)
    (hc : r.cutPolicy = .complete) : g.leaveCut = g := by
  simp [Generator.leaveCut, hp, hr, hc]

/-- Any other generator is cut whatever its policy. -/
theorem Generator.leaveCut_cut {g : Generator}
    (h : g.phase = .on → ∀ r, g.record = some r → r.cutPolicy = .truncate) : g.leaveCut = g.cutNow := by
  unfold Generator.leaveCut
  split
  · next hm hp =>
    obtain ⟨r, hr, hc⟩ := Option.map_eq_some_iff.1 hm
    rw [h hp r hr] at hc; cases hc
  all_goals rfl

/-- What goes on through a drain is cut like any other when the station enters STANDBY. -/
theorem cutNow_leaveCut (gens : Vector Generator 4) :
    (gens.map Generator.leaveCut).map Generator.cutNow = gens.map Generator.cutNow := by
  rw [Vector.map_map]
  refine congrArg (Vector.map · gens) (funext fun g => ?_)
  show g.leaveCut.cutNow = g.cutNow
  unfold Generator.leaveCut
  split
  · rfl
  all_goals exact Generator.cutNow_of_settled g.cutNow_settled

/-- What LEAVE(IMMEDIATE) makes of a generator of a held frame (R154). -/
theorem Generator.leaveCut_spec (g : Generator) :
    let cut : Generator := { g with phase := .cut, phaseEnd := none, outcome := some .cut }
    ((g.phase = .done ∨ g.phase = .cut) → g.leaveCut = g) ∧
    ((g.phase = .wait ∨ g.phase = .delay ∨ g.phase = .off) → g.leaveCut = cut) ∧
    (g.phase = .on → ∀ r, g.record = some r →
      (r.cutPolicy = .complete → g.leaveCut = g) ∧ (r.cutPolicy = .truncate → g.leaveCut = cut)) := by
  refine ⟨fun h => ?_, fun h => ?_, fun h r hr => ⟨Generator.leaveCut_complete h hr, fun hc => ?_⟩⟩
  · rw [Generator.leaveCut_cut fun ho => by rcases h with h | h <;> rw [h] at ho <;> cases ho]
    exact Generator.cutNow_of_settled ((Generator.settled_iff _).2 h)
  · rw [Generator.leaveCut_cut fun ho => by rcases h with h | h | h <;> rw [h] at ho <;> cases ho]
    refine Generator.cutNow_of_running ?_
    rcases h with h | h | h <;> simp [Generator.settled, h]
  · rw [Generator.leaveCut_cut fun _ r' hr' => by rw [hr] at hr'; injection hr' with e; rw [← e, hc]]
    exact Generator.cutNow_of_running (by simp [Generator.settled, h])

/-- The station that leaves at once, item by item (R27, R87, R88). -/
theorem State.departNow_eq (s : State) :
    s.departNow =
      { s with
        transceiver := s.departTransceiver
        membership := { s.membership with state := .leaving, pendingLeave := none, leavingFrame := false }
        epochs :=
          { s.epochs with
            ready := none
            deferred := false
            turn := if s.epochs.turn = .catchingUp then .idle else s.epochs.turn }
        cursor := { s.cursor with lookahead := some .leave } } := rfl

/-- The station that drains: LEAVING, its outputs off but for the COMPLETE strobes that are ON (R11). -/
def State.draining (s : State) : State :=
  { s with
    transceiver := s.departTransceiver
    membership := { s.membership with state := .leaving, pendingLeave := none, leavingFrame := false }
    epochs :=
      { s.epochs with
        ready := none
        deferred := false
        turn := if s.epochs.turn = .catchingUp then .idle else s.epochs.turn }
    cursor := { s.cursor with lookahead := some .leave }
    barrier := { s.barrier with phase := .draining }
    sequencer := { s.sequencer with schedule := [], xtrig := false, headWord := none }
    generators := s.generators.map Generator.leaveCut }

theorem State.departNow_drain (s : State) : s.departNow.drain = s.draining.finishDrain := by
  unfold State.drain
  rw [State.departNow_eq]
  rfl

theorem State.draining_get (s : State) (c : Fin 4) :
    s.draining.generators.get c = (s.generators.get c).leaveCut := vector_get_map _ _ _

theorem State.draining_anyOn (s : State) :
    anyOn s.draining.generators = true ↔
      ∃ c r, (s.generators.get c).phase = .on ∧ (s.generators.get c).record = some r ∧ r.cutPolicy = .complete := by
  rw [anyOn_iff]
  refine exists_congr fun c => ?_
  rw [State.draining_get, Generator.leaveCut_on]
  simp only [exists_and_left]

theorem State.leaveAtOnce_of_draining {s : State} (h : s.barrier.phase = .draining) : s.leaveAtOnce = s := if_pos h

theorem State.leaveAtOnce_of_holding {s : State} (h : s.barrier.phase = .holding) :
    s.leaveAtOnce = s.draining.finishDrain := by
  unfold State.leaveAtOnce
  exact (if_neg (by rw [h]; decide)).trans ((if_pos h).trans s.departNow_drain)

theorem State.leaveAtOnce_of_not_held {s : State} (h1 : s.barrier.phase ≠ .draining) (h2 : s.barrier.phase ≠ .holding) :
    s.leaveAtOnce = s.departNow.enterStandby (some true) [] := by
  unfold State.leaveAtOnce
  exact (if_neg h1).trans (if_neg h2)

/-- The parting note is prepared where the own slot has not passed (R27, R88). -/
theorem State.departTransceiver_parting (s : State) :
    s.departTransceiver.parting = if s.slotPassed then none else some s.partingNote := by
  cases h : s.slotPassed <;> simp [State.departTransceiver, h]

/-- The FRAME record of a frame given up at the command, the drained outputs being cut (R158). -/
theorem State.draining_frameRecord (truncated : Bool) (s : State) :
    s.draining.cutGenerators.frameRecord truncated = s.cutGenerators.frameRecord truncated := by
  exact State.frameRecord_congr truncated rfl rfl rfl rfl rfl rfl rfl rfl rfl (cutNow_leaveCut _) rfl

/-- Settles O24. -/
theorem leaveAtOnceDrainsOrEntersStandby : Obligations.LeaveAtOnceDrainsOrEntersStandby := by
  intro s ht
  refine ⟨fun hs => ?_, fun hs => ?_⟩
  · have run : exec .leaveImmediate s = .next (s.leaveAtOnce.reply .accepted) := by
      refine (State.command_next ht).trans (congrArg _ ?_)
      rcases hs with h | h | h <;> simp only [leaveImmediateAction, h]
    refine ⟨fun hb => by rw [run, State.leaveAtOnce_of_draining hb], fun hb => ⟨_, run, rfl, ?_⟩⟩
    have parting := s.departTransceiver_parting
    by_cases hh : s.barrier.phase = .holding
    · have hany := s.draining_anyOn
      have hget := s.draining_get
      have hlog : (s.draining.enterStandby (some true) []).log =
          (s.cutGenerators.frameRecord true ++ [s.record .left]).foldl StationLog.append s.log := by
        rw [State.enterStandby_log, State.draining_frameRecord]; rfl
      rw [State.leaveAtOnce_of_holding hh]
      rcases s.draining.finishDrain_cases with ⟨hon, e⟩ | ⟨hon, e⟩ <;> rw [e]
      · rw [hany] at hon
        unfold State.draining at hget ⊢
        refine ⟨rfl, rfl, rfl, rfl, parting, fun _ _ => ⟨rfl, rfl, rfl, rfl, fun c => ?_, rfl, rfl, rfl, rfl⟩,
          fun h => ?_, rfl, rfl, rfl, rfl⟩
        · rw [State.reply_generators, hget]
          exact Generator.leaveCut_spec _
        · obtain ⟨c, r, hp, hr, hc⟩ := hon
          rcases h with h | h
          · exact absurd hh h
          · rw [h c r hp hr] at hc; cases hc
      · rw [← Bool.not_eq_true, hany] at hon
        unfold State.draining at hlog ⊢
        exact ⟨rfl, rfl, rfl, rfl, parting, fun _ h => absurd h hon,
          fun _ => ⟨rfl, rfl, rfl, rfl, rfl, rfl, rfl, rfl, rfl, hlog⟩, rfl, rfl, rfl, rfl⟩
    · have hd : s.barrier.phase ≠ .draining := by rcases hb with h | h | h <;> rw [h] <;> decide
      have hlog : (s.departNow.enterStandby (some true) []).log =
          (s.cutGenerators.frameRecord true ++ [s.record .left]).foldl StationLog.append s.log :=
        State.enterStandby_log _ _
      rw [State.leaveAtOnce_of_not_held hd hh]
      rw [State.departNow_eq] at hlog ⊢
      exact ⟨rfl, rfl, rfl, rfl, parting, fun h => absurd h hh,
        fun _ => ⟨rfl, rfl, rfl, rfl, rfl, rfl, rfl, rfl, rfl, hlog⟩, rfl, rfl, rfl, rfl⟩
  · refine (State.command_next ht).trans (congrArg _ ?_)
    rcases hs with h | h | h <;> simp only [leaveImmediateAction, h]

end Sys2Proof.Machine
end

section
/-! SUPPORT. The ticks: the samples of FRAME and what they leave in the mark history (R1 to R3). -/

namespace Sys2Proof.Machine

/-! ### The mark history over ticks -/

/-- FRAME is low at the pin where the station pulls it or the others do (R1). -/
theorem Barrier.level_eq_false_iff (l : Bool) (b : Barrier) : b.level l = false ↔ l = false ∨ b.pulled = true := by
  cases l <;> simp [Barrier.level]

theorem Barrier.sampleLow_one (b : Barrier) :
    b.sampleLow 1 = { b with lows := if b.highs = 0 then min 2 (b.lows + 1) else 1, highs := 0 } := by
  unfold Barrier.sampleLow
  by_cases h : b.highs = 0
  · simp [h]
  · simp [h]

theorem Barrier.sampleHigh_one (b : Barrier) :
    b.sampleHigh 1 =
      { b with
        lows := if b.lows = 2 ∧ b.highs = 0 then 2 else 0
        highs := if b.lows = 2 ∧ b.highs = 0 then 1 else 0 } := by
  unfold Barrier.sampleHigh
  by_cases h : b.lows = 2 ∧ b.highs = 0
  · simp [h]
  · simp [h]

/-- One tick puts one sample into the history (R2). -/
theorem Barrier.elapse_one (l : Bool) (b : Barrier) :
    b.elapse l 1 =
      { b with
        lows :=
          if l = false ∨ b.pulled = true then (if b.highs = 0 then min 2 (b.lows + 1) else 1)
          else if b.lows = 2 ∧ b.highs = 0 then 2
          else 0
        highs := if ¬ (l = false ∨ b.pulled = true) ∧ b.lows = 2 ∧ b.highs = 0 then 1 else 0
        sampled := false
        marked := false } := by
  unfold Barrier.elapse
  cases h : b.level l
  · have low := (b.level_eq_false_iff l).1 h
    simp [low, Barrier.sampleLow_one]
  · have high : ¬ (l = false ∨ b.pulled = true) := by rw [← Barrier.level_eq_false_iff, h]; nofun
    simp [high, Barrier.sampleHigh_one]

/-- The samples of one level go into the history one by one. -/
theorem Barrier.sampleLow_succ (n : Nat) (b : Barrier) : b.sampleLow (n + 1) = (b.sampleLow n).sampleLow 1 := by
  rcases Nat.eq_zero_or_pos n with rfl | hn
  · rfl
  · by_cases h : b.highs = 0
    · simp only [Barrier.sampleLow, h, hn.ne', if_true, if_false, Nat.succ_ne_zero]
      congr 1
      omega
    · simp only [Barrier.sampleLow, h, hn.ne', if_true, if_false, Nat.succ_ne_zero]
      congr 1
      omega

theorem Barrier.sampleHigh_succ (n : Nat) (b : Barrier) : b.sampleHigh (n + 1) = (b.sampleHigh n).sampleHigh 1 := by
  rcases Nat.eq_zero_or_pos n with rfl | hn
  · rfl
  · have many : b.sampleHigh (n + 1) = { b with lows := 0, highs := 0 } := by
      simp [Barrier.sampleHigh, hn.ne']
    rw [many, Barrier.sampleHigh_one]
    unfold Barrier.sampleHigh
    split_ifs <;> simp_all

theorem Barrier.elapse_succ (l : Bool) (k : Nat) (b : Barrier) : b.elapse l (k + 1) = (b.elapse l k).elapse l 1 := by
  rcases Nat.eq_zero_or_pos k with rfl | hk
  · rw [Barrier.elapse_zero]
  · have level : (b.elapse l k).level l = b.level l := by rw [Barrier.level, Barrier.level, Barrier.elapse_pulled]
    have low (c : Barrier) : ({ c with sampled := false, marked := false } : Barrier).sampleLow 1 =
      { c.sampleLow 1 with sampled := false, marked := false } := by rw [Barrier.sampleLow_one, Barrier.sampleLow_one]
    have high (c : Barrier) : ({ c with sampled := false, marked := false } : Barrier).sampleHigh 1 =
      { c.sampleHigh 1 with sampled := false, marked := false } := by rw [Barrier.sampleHigh_one, Barrier.sampleHigh_one]
    have once : (b.elapse l k).elapse l 1 =
        { (if b.level l then (b.elapse l k).sampleHigh 1 else (b.elapse l k).sampleLow 1) with
          sampled := false, marked := false } := by rw [← level]; rfl
    have here : b.elapse l k =
        { (if b.level l then b.sampleHigh k else b.sampleLow k) with sampled := false, marked := false } :=
      if_neg hk.ne'
    have next : b.elapse l (k + 1) =
        { (if b.level l then b.sampleHigh (k + 1) else b.sampleLow (k + 1)) with sampled := false, marked := false } :=
      if_neg k.succ_ne_zero
    rw [once, next, here]
    cases b.level l
    · simp [low, Barrier.sampleLow_succ k]
    · simp [high, Barrier.sampleHigh_succ k]

theorem State.elapse_succ (k : Nat) (s : State) : s.elapse (k + 1) = (s.elapse k).elapse 1 := by
  have settle : min 2000 (s.timebase.settle + (k + 1)) = min 2000 (min 2000 (s.timebase.settle + k) + 1) := by omega
  simp only [State.elapse, Barrier.elapse_succ s.frameIn k]
  split <;> simp_all [Config.settleTicks, Nat.add_assoc]

/-! ### Samples and marks -/

theorem State.canMark_iff (s : State) : s.canMark = true ↔ s.barrier.pulled = false ∧ s.barrier.pullDue = false := by
  simp [State.canMark]

theorem exec_frameMark {s : State} (h : s.ticking = true) : exec .frameMark s = .next (frameMarkEffect s) :=
  State.event_next h

/-- When a high sample completes a frame mark (R2). -/
theorem State.risesNow_iff (s : State) :
    s.risesNow = true ↔
      s.barrier.sampled = false ∧ s.barrier.lows = 2 ∧ s.barrier.highs = 1 ∧ s.barrier.pulled = false ∧
        s.barrier.pullDue = false := by
  simp [State.risesNow, Barrier.markReady, State.canMark_iff, and_assoc]

theorem State.toSample_told {s : State} (h : s.barrier.sampled = true) : s.toSample = s.elapse 1 := if_pos h

theorem State.toSample_untold {s : State} (h : s.barrier.sampled = false) : s.toSample = s := if_neg (by simp [h])

/-- The sample that comes after the tick of the told one. -/
theorem State.toSample_elapse_one (s : State) : (s.elapse 1).toSample = s.elapse 1 :=
  State.toSample_untold (Barrier.elapse_succ_sampled _ 0 _)

theorem frameLevelChangeEffect_ticking {high : Bool} {s : State} (h : s.ticking = true) :
    frameLevelChangeEffect high s = s.toSample.sampleFrame high := if_pos h

theorem frameLevelChangeEffect_still {high : Bool} {s : State} (h : s.ticking = false) :
    frameLevelChangeEffect high s = { s with frameIn := high } := if_neg (by simp [h])

/-- A sample that completes no mark goes into the history when the tick is over (R2). -/
theorem State.sampleFrame_plain {high : Bool} {s : State} (h : ¬ (high = true ∧ s.risesNow = true)) :
    s.sampleFrame high = { s with frameIn := high, barrier := { s.barrier with sampled := true } } := if_neg h

/-- The state in which a mark is taken: FRAME high and the history spent (R2, R15). -/
def State.rising (s : State) : State :=
  { s with frameIn := true, barrier := { s.barrier with lows := 0, highs := 0, sampled := true, marked := true } }

theorem State.sampleFrame_mark {s : State} (h : s.risesNow = true) :
    s.sampleFrame true = ({ s with frameIn := true } : State).takeMark := if_pos ⟨rfl, h⟩

theorem State.closeEarly_closed {s : State} (h : s.transceiver.windowOpen = false) : s.closeEarly = s :=
  if_neg (by simp [h])

/-- What the phase and the station state make of a mark (R3). -/
def State.actOnMark (s : State) : State :=
  match s.barrier.phase, s.membership.state with
  | .watching, .listening => s.listenMark
  | .watching, .joining => s.beginFrame .joining
  | .watching, .founding => s.beginFrame .founding
  | .released, .flushing | .released, .active | .released, .leaving => s.beginFrame .next
  | _, _ => s

/-- A mark spends the history, then closes a window still open, then the phase decides (R3, R24). -/
theorem frameMarkEffect_rise {s : State} (h : s.risesNow = true) :
    frameMarkEffect s = s.rising.closeEarly.actOnMark := by
  rw [frameMarkEffect, State.toSample_untold ((s.risesNow_iff).1 h).1, State.sampleFrame_mark h]
  rfl

theorem State.actOnMark_dormant {s : State} (h : s.barrier.phase = .dormant) : s.actOnMark = s := by
  simp [State.actOnMark, h]

theorem State.actOnMark_listening {s : State} (h : s.barrier.phase = .watching) (hs : s.membership.state = .listening) :
    s.actOnMark = s.listenMark := by
  simp [State.actOnMark, h, hs]

theorem State.actOnMark_joining {s : State} (h : s.barrier.phase = .watching) (hs : s.membership.state = .joining) :
    s.actOnMark = s.beginFrame .joining := by
  simp [State.actOnMark, h, hs]

theorem State.actOnMark_founding {s : State} (h : s.barrier.phase = .watching) (hs : s.membership.state = .founding) :
    s.actOnMark = s.beginFrame .founding := by
  simp [State.actOnMark, h, hs]

theorem State.actOnMark_next {s : State} (h : s.barrier.phase = .released)
    (hs : s.membership.state.participant = true) : s.actOnMark = s.beginFrame .next := by
  rcases (StationState.participant_iff _).1 hs with hs | hs | hs <;> simp [State.actOnMark, h, hs]

/-- A mark at which no window is open. -/
theorem exec_frameMark_rise {s : State} (ht : s.ticking = true) (hr : s.risesNow = true)
    (hw : s.transceiver.windowOpen = false) : exec .frameMark s = .next s.rising.actOnMark := by
  have closed : s.rising.closeEarly = s.rising := State.closeEarly_closed hw
  rw [exec_frameMark ht, frameMarkEffect_rise hr, closed]

/-- A unit that pulls FRAME sees no rise (R1, R2). -/
theorem InOrder.risesNow_of_pulls {s : State} (h : InOrder s) (hb : s.barrier.phase.pulls = true) :
    s.risesNow = false := by
  rw [← Bool.not_eq_true, State.risesNow_iff]
  rintro ⟨-, -, -, hp, -⟩
  rw [h.pull, hb] at hp; cases hp

/-- Where the barrier unit rests, the station is outside the rig (section 1.2). -/
theorem InOrder.not_inRig_of_dormant {s : State} (h : InOrder s) (hb : s.barrier.phase = .dormant) :
    s.membership.state.inRig = false := by
  have hp := h.phase
  simp only [State.phaseFits, hb, Bool.and_eq_true, Bool.not_eq_true'] at hp
  exact hp.1

theorem StationState.not_inRig_iff (x : StationState) :
    x.inRig = false ↔ x = .unconfigured ∨ x = .standby ∨ x = .detached := by
  cases x <;> decide

/-- Settles O37. -/
theorem frameSamplesBuildTheMarkHistory : Obligations.FrameSamplesBuildTheMarkHistory := by
  intro high s
  refine ⟨fun ht => ⟨congrArg _ (frameLevelChangeEffect_still ht), congrArg _ (State.onTick_still ht)⟩, ?_, ?_, ?_, ?_,
    Barrier.elapse_one _ _, fun k => State.elapse_succ k s⟩
  · intro ht hs
    have ht1 : (s.elapse 1).ticking = true := (State.elapse_ticking 1 s).trans ht
    have next : s.toSample = (s.elapse 1).toSample := by rw [State.toSample_told hs, State.toSample_elapse_one]
    constructor
    · refine congrArg Host.Outcome.next ?_
      rw [frameLevelChangeEffect_ticking ht, frameLevelChangeEffect_ticking ht1, next]
    · rw [exec_frameMark ht, exec_frameMark ht1]
      exact congrArg (fun t : State => Host.Outcome.next (t.sampleFrame true)) next
  · intro ht hs
    have rise : (s.barrier.lows = 2 ∧ s.barrier.highs = 1 ∧ s.barrier.pulled = false ∧ s.barrier.pullDue = false) ↔
        s.risesNow = true := by simp [State.risesNow_iff, hs]
    refine ⟨rise, ?_, fun hno => ?_⟩
    · exact (congrArg Host.Outcome.next (frameLevelChangeEffect_ticking ht)).trans (exec_frameMark ht).symm
    · rw [rise] at hno
      refine congrArg Host.Outcome.next ?_
      rw [frameLevelChangeEffect_ticking ht, State.toSample_untold hs, State.sampleFrame_plain hno]
  · intro ht hr hb hw
    rw [exec_frameMark_rise ht hr hw, State.actOnMark_dormant (s := s.rising) hb, State.rising]
  · intro h
    have h := (s.inOrder_iff).1 h
    refine ⟨fun hb => ?_, fun hb => ?_⟩
    · have out := h.not_inRig_of_dormant hb
      exact ⟨(h.rig out).2.1, (s.membership.state.not_inRig_iff).1 out⟩
    · refine h.risesNow_of_pulls ?_
      rcases hb with hb | hb | hb <;> rw [hb] <;> rfl

end Sys2Proof.Machine
end

section
/-! SUPPORT. What is due at a tick, event by event, and the step on an empty queue (log entry 3). -/

namespace Sys2Proof.Machine

/-! ### Due events -/

theorem State.mem_dueAt_some {s : State} {t : Nat} {e event : Instr} :
    e ∈ s.dueAt (some t) event ↔ e = event ∧ t ≤ s.now := by
  unfold State.dueAt
  by_cases h : t ≤ s.now <;> simp [h]

theorem State.mem_dueAt {s : State} {due : Option Nat} {e event : Instr} :
    e ∈ s.dueAt due event ↔ e = event ∧ ∃ t, due = some t ∧ t ≤ s.now := by
  cases due with
  | none => simp [State.dueAt]
  | some t => rw [State.mem_dueAt_some]; simp

theorem State.mem_dueAt_if {s : State} {p : Prop} [Decidable p] {due : Option Nat} {e event : Instr} :
    e ∈ s.dueAt (if p then due else none) event ↔ e = event ∧ p ∧ ∃ t, due = some t ∧ t ≤ s.now := by
  rw [State.mem_dueAt]
  by_cases h : p <;> simp [h]

/-- An event is due once at most. -/
theorem State.dueAt_sublist (s : State) (due : Option Nat) (event : Instr) : (s.dueAt due event).Sublist [event] := by
  unfold State.dueAt
  cases due with
  | none => exact List.nil_sublist _
  | some t =>
    dsimp only
    split
    · exact List.Sublist.refl _
    · exact List.nil_sublist _

/-- A timer that runs up to a limit has come when its start lies the limit back. -/
theorem timerDue_come {start : Option Nat} {limit now : Nat} :
    (∃ t, timerDue start limit = some t ∧ t ≤ now) ↔ ∃ t, start = some t ∧ t + limit ≤ now := by
  simp [timerDue]

theorem State.mem_dueBarrier (s : State) (e : Instr) :
    e ∈ s.dueBarrier ↔
      (e = .participantPull ∧ s.barrier.pullDue = true ∧ s.barrier.markTick + 1 ≤ s.now) ∨
      (e = .minFrameTimeElapsed ∧ (s.barrier.phase = .holding ∨ s.barrier.pullDue = true) ∧
        ∃ t, s.barrier.minTimeDue = some t ∧ t ≤ s.now) ∨
      (e = .holdLimitExpiry ∧ (s.barrier.phase = .holding ∨ s.barrier.phase = .draining) ∧
        ∃ t, s.barrier.holdStart = some t ∧ t + s.holdTicks ≤ s.now) ∨
      (e = .stallTimerExpiry ∧ s.stallable = true ∧ ∃ t, s.barrier.stallStart = some t ∧ t + s.stallTicks ≤ s.now) ∨
      (e = .listenTimerExpiry ∧ (s.membership.state = .listening ∧ s.barrier.marked = false) ∧
        ∃ t, s.barrier.stallStart = some t ∧ t + s.stallTicks ≤ s.now) ∨
      (e = .foundingPulseEnd ∧ s.barrier.phase = .pulsing ∧
        ∃ t, s.barrier.pulseStart = some t ∧ t + s.prof.slotTime ≤ s.now) := by
  have opened : s.frameOpen = true ↔ s.barrier.phase = .holding ∨ s.barrier.pullDue = true := by simp [State.frameOpen]
  simp only [State.dueBarrier, List.mem_append, State.mem_dueAt_if, timerDue_come, Option.some.injEq, exists_eq_left',
    or_assoc, opened]

theorem State.mem_dueNotes (s : State) (e : Instr) :
    e ∈ s.dueNotes ↔
      (e = .ownTransmissionStart ∧ (s.transceiver.windowOpen = true ∧ s.transceiver.ownPassed = false) ∧
        s.ownStartTick ≤ s.now) ∨
      (e = .partingNoteSend ∧ (s.transceiver.parting.isSome = true ∧ s.transceiver.windowStart.isSome = true) ∧
        s.ownStartTick ≤ s.now) ∨
      (e = .ownNoteCompletion [] ∧
        ∃ x, s.transceiver.sending = some x ∧ x.judged = false ∧ x.start + x.note.ticks ≤ s.now) ∨
      (e = .windowEnd ∧ s.transceiver.windowOpen = true ∧ s.windowEndTick ≤ s.now) := by
  simp only [State.dueNotes, List.mem_append, State.mem_dueAt_if, Option.some.injEq, exists_eq_left', or_assoc,
    Bool.and_eq_true, Bool.not_eq_true']
  refine or_congr_right (or_congr_right (or_congr_left ?_))
  cases s.transceiver.sending with
  | none => simp [State.dueAt]
  | some x => cases hx : x.judged <;> simp [State.mem_dueAt, hx]

theorem State.mem_dueHead (s : State) (e : Instr) :
    e ∈ s.dueHead ↔
      (e = .hcodeWordSent ∧ ∃ t, (s.sequencer.headWord.map fun w => w.start) = some t ∧ t + 11 ≤ s.now) ∨
      (e = .exposureEnd ∧ s.sequencer.xtrig = true ∧
        ∃ t, (s.sequencer.schedule[s.sequencer.started - 1]?.map fun x => x.2) = some t ∧ t ≤ s.now) := by
  have running : s.runningExposure.map (fun x => x.2) =
      if s.sequencer.xtrig then s.sequencer.schedule[s.sequencer.started - 1]?.map (fun x => x.2) else none := by
    unfold State.runningExposure; split <;> rfl
  rw [State.dueHead, List.mem_append, running, State.mem_dueAt_if, State.mem_dueAt]
  simp [Config.headWordTicks]

/-- A strobe phase ends where the generator is in it and its end has come. -/
def State.phaseOver (s : State) (channel : Fin 4) (phase : StrobePhase) : Prop :=
  (s.generators.get channel).phase = phase ∧ ∃ t, (s.generators.get channel).phaseEnd = some t ∧ t ≤ s.now

theorem State.mem_dueStrobe (channel : Fin 4) (s : State) (e : Instr) :
    e ∈ s.dueStrobe channel ↔
      (e = .strobeDelayEnd channel ∧ s.phaseOver channel .delay) ∨
      (e = .strobeOnEnd channel ∧ s.phaseOver channel .on) ∨
      (e = .strobeOffEnd channel ∧ s.phaseOver channel .off) := by
  simp only [State.dueStrobe, State.phaseEndOf, List.mem_append, State.mem_dueAt_if, State.phaseOver, or_assoc]

theorem State.mem_dueOthers (s : State) (e : Instr) :
    e ∈ s.dueOthers ↔
      (e = .verifyWalkConclusion ∧
        ∃ since, s.verifier = .running since ∧ since + (walk s.table s.holdTicks).1 ≤ s.now) ∨
      (e = .settleCountComplete ∧ s.timebase.lock = .settling ∧ s.timebase.settle = 2000) := by
  rw [State.dueOthers, List.mem_append, State.mem_dueAt]
  refine or_congr (and_congr_right fun _ => ?_) ?_
  · unfold State.walkEnd
    cases s.verifier <;> simp
  · change _ ∈ ite (s.timebase.lock = .settling ∧ s.timebase.settle = 2000) _ _ ↔ _
    split <;> simp_all

theorem State.mem_dueEvents (s : State) (e : Instr) :
    e ∈ s.dueEvents ↔
      e ∈ s.dueBarrier ∨ e ∈ s.dueNotes ∨ e ∈ s.dueHead ∨ (∃ channel, e ∈ s.dueStrobe channel) ∨
        e ∈ s.dueOthers := by
  simp only [State.dueEvents, List.mem_append, Fin.exists_fin_succ, or_assoc]
  simp

/-- The events of the barrier unit's timers, in the order in which they are asked for; then those of the other blocks. -/
def barrierEvents : List Instr :=
  [.participantPull, .minFrameTimeElapsed, .holdLimitExpiry, .stallTimerExpiry, .listenTimerExpiry, .foundingPulseEnd]

def noteEvents : List Instr := [.ownTransmissionStart, .partingNoteSend, .ownNoteCompletion [], .windowEnd]

def headEvents : List Instr := [.hcodeWordSent, .exposureEnd]

def strobeEvents (channel : Fin 4) : List Instr :=
  [.strobeDelayEnd channel, .strobeOnEnd channel, .strobeOffEnd channel]

def otherEvents : List Instr := [.verifyWalkConclusion, .settleCountComplete]

/-- The events of the part's own timers. -/
def timerEvents : List Instr :=
  barrierEvents ++ noteEvents ++ headEvents ++ strobeEvents 0 ++ strobeEvents 1 ++ strobeEvents 2 ++ strobeEvents 3
    ++ otherEvents

theorem State.dueBarrier_sublist (s : State) : s.dueBarrier.Sublist barrierEvents := by
  have one := s.dueAt_sublist
  unfold State.dueBarrier
  exact (((((one _ _).append (one _ _)).append (one _ _)).append (one _ _)).append (one _ _)).append (one _ _)

theorem State.dueNotes_sublist (s : State) : s.dueNotes.Sublist noteEvents := by
  have one := s.dueAt_sublist
  unfold State.dueNotes
  exact (((one _ _).append (one _ _)).append (one _ _)).append (one _ _)

theorem State.dueHead_sublist (s : State) : s.dueHead.Sublist headEvents :=
  (s.dueAt_sublist _ _).append (s.dueAt_sublist _ _)

theorem State.dueStrobe_sublist (channel : Fin 4) (s : State) : (s.dueStrobe channel).Sublist (strobeEvents channel) :=
  ((s.dueAt_sublist _ _).append (s.dueAt_sublist _ _)).append (s.dueAt_sublist _ _)

theorem State.dueOthers_sublist (s : State) : s.dueOthers.Sublist otherEvents := by
  refine (s.dueAt_sublist _ _).append (l₂ := [_]) (r₂ := [_]) ?_
  split
  · exact List.Sublist.refl _
  · exact List.nil_sublist _

/-- Each timer's event is due once at most. -/
theorem State.dueEvents_sublist (s : State) : s.dueEvents.Sublist timerEvents := by
  unfold State.dueEvents timerEvents
  exact ((((((s.dueBarrier_sublist.append s.dueNotes_sublist).append s.dueHead_sublist).append
    (s.dueStrobe_sublist 0)).append (s.dueStrobe_sublist 1)).append (s.dueStrobe_sublist 2)).append
    (s.dueStrobe_sublist 3)).append s.dueOthers_sublist

theorem State.dueEvents_nodup (s : State) : s.dueEvents.Nodup :=
  s.dueEvents_sublist.nodup (by decide)

/-! ### What enters the queue -/

theorem State.dueNow_none {s : State} (h : s.dueEvents = []) :
    s.dueNow = if s.frameIn = true ∧ s.risesNow = true then [.frameMark] else [] := by
  simp [State.dueNow, h]

/-- Without a listen expiry at a mark's tick the due events come as they are (R15). -/
theorem State.dueNow_events {s : State} (h : s.dueEvents ≠ [])
    (hno : ¬ (s.frameIn = true ∧ s.risesNow = true ∧ Instr.listenTimerExpiry ∈ s.dueEvents)) :
    s.dueNow = s.dueEvents := by
  have hfalse : ¬ (s.frameIn && s.risesNow && s.dueEvents.contains .listenTimerExpiry &&
      Config.freeChoice s.choices) = true := by
    simp only [Bool.and_eq_true, List.contains_iff_mem]
    exact fun hyes => hno ⟨hyes.1.1.1, hyes.1.1.2, hyes.1.2⟩
  unfold State.dueNow
  exact (if_neg (by simpa using h)).trans (if_neg hfalse)

theorem markFirst_eq (due : List Instr) :
    markFirst due =
      let rest := due.filter fun e => e ≠ .listenTimerExpiry
      if rest = [] then [.frameMark] else rest := by
  simp only [markFirst, List.isEmpty_iff, ne_eq, decide_not, bne, beq_eq_decide]

theorem State.dueNow_cases {s : State} (h : s.dueEvents ≠ []) :
    s.dueNow = s.dueEvents ∨ s.dueNow = markFirst s.dueEvents := by
  unfold State.dueNow
  rw [if_neg (by simpa using h)]
  split
  · exact .inr rfl
  · exact .inl rfl

/-! ### One tick -/

/-- One tick passes: the clock, the history and the settle count move, and nothing else. -/
theorem State.elapse_one (s : State) :
    s.elapse 1 =
      { s with
        now := s.now + 1
        barrier := s.barrier.elapse s.frameIn 1
        timebase :=
          { s.timebase with
            settle :=
              if s.timebase.lock = .settling then min 2000 (s.timebase.settle + 1) else s.timebase.settle } } := by
  simp only [State.elapse, Config.settleTicks]
  split <;> rfl

/-- Settles O2. -/
theorem emptyQueueLetsOneTickPass : Obligations.EmptyQueueLetsOneTickPass := by
  intro s hq
  refine ⟨step_empty hq, fun ht => ?_, fun ht hd => ?_, fun ht hd => ?_, State.dueNow_none,
    fun h => ⟨State.dueNow_events h, ?_⟩, s.dueEvents_nodup, fun event => ?_⟩
  · simp [tick, ht]
  · obtain ⟨hno, -⟩ | ⟨-, hno, -⟩ | ⟨-, -, e⟩ := tick_cases s
    · rw [ht] at hno; cases hno
    · exact absurd hno hd
    · refine ⟨_, _, ?_, e⟩
      have perm := State.enqueue_perm s.dueNow { s with choices := s.choices + 1 }
      exact perm.trans (.of_eq (by simp [hq]))
  · obtain ⟨hno, -⟩ | ⟨-, -, e⟩ | ⟨-, hno, -⟩ := tick_cases s
    · rw [ht] at hno; cases hno
    · rw [e, State.elapse_one, Barrier.elapse_one]
      have low : (s.frameIn = false ∨ s.barrier.pulled = true) ↔ ¬ (s.frameIn = true ∧ s.barrier.pulled = false) := by
        cases s.frameIn <;> cases s.barrier.pulled <;> decide
      simp only [low, ite_not, not_not]
    · exact absurd hd hno
  · rw [← markFirst_eq]
    exact State.dueNow_cases h
  · rw [State.mem_dueEvents]
    simp only [State.mem_dueBarrier, State.mem_dueNotes, State.mem_dueHead, State.mem_dueStrobe, State.mem_dueOthers]
    cases event <;> simp only [reduceCtorEq, false_and, or_false, false_or, true_and, exists_false, and_assoc,
      Instr.strobeDelayEnd.injEq, Instr.strobeOnEnd.injEq, Instr.strobeOffEnd.injEq, Instr.ownNoteCompletion.injEq,
      exists_eq_left', s.stallable_iff]
    all_goals rfl

end Sys2Proof.Machine
end

section
/-! SUPPORT. The output pins, and the bits of a note and of a head code word as they stand on the line. -/

namespace Sys2Proof.Machine

/-! ### Bits of bytes -/

theorem getElem?_bitsOfByte (b : Byte) {k : Nat} (h : k < 8) : (bitsOfByte b)[k]? = some (b.getMsbD k) := by
  have index : ∀ i : Fin 8, (bitsOfByte b)[i.val]? = some (b.getMsbD i.val) := by
    intro i
    fin_cases i <;> simp [bitsOfByte, BitVec.getMsbD]
  exact index ⟨k, h⟩

/-- Bit `k` of a string of bytes is bit `k % 8` of byte `k / 8`, most significant first (R21). -/
theorem getElem?_flatMap_bitsOfByte (bytes : List Byte) (k : Nat) :
    (bytes.flatMap bitsOfByte)[k]? = bytes[k / 8]?.map fun b => b.getMsbD (k % 8) := by
  induction bytes generalizing k with
  | nil => rfl
  | cons b rest ih =>
    have length : (bitsOfByte b).length = 8 := rfl
    rw [List.flatMap_cons]
    rcases Nat.lt_or_ge k 8 with h | h
    · rw [List.getElem?_append_left (by omega), getElem?_bitsOfByte b h, Nat.div_eq_of_lt h, Nat.mod_eq_of_lt h]
      rfl
    · obtain ⟨j, rfl⟩ := Nat.exists_eq_add_of_le' h
      rw [List.getElem?_append_right (by omega), length, Nat.add_sub_cancel, ih, Nat.add_div_right j (by decide),
        Nat.add_mod_right]
      rfl

theorem Note.encode_length (n : Note) : n.encode.length = 14 + n.claims.length := by
  simp only [Note.encode, Note.body, bytes4, bytes3, bytes2, List.length_append, List.length_cons, List.length_nil,
    List.length_map]
  omega

/-- The symbols of a string of bytes, one by one (R21). -/
theorem getD_symbolsOf (bytes : List Byte) (k : Nat) :
    (symbolsOf bytes).getD k (true, true) =
      ((bytes[k / 8]?.map fun b => b.getMsbD (k % 8)).map symbolOfBit).getD (true, true) := by
  rw [List.getD_eq_getElem?_getD, symbolsOf, List.getElem?_map, getElem?_flatMap_bitsOfByte]

/-- The kind code of a record is the first byte of its image (11.7). -/
theorem Record.encode_head (r : Record) : (r.encode.getD 0 0).toNat = r.body.code := by
  have small : r.body.code < 2 ^ 8 := by cases r.body <;> simp [RecordBody.code]
  change (byte r.body.code).toNat = r.body.code
  rw [byte, BitVec.toNat_ofNat, Nat.mod_eq_of_lt small]

/-! ### The pins -/

/-- ATTN (R168). -/
theorem State.attn_iff (s : State) :
    s.attn = true ↔ s.membership.state = .detached ∨
      ∃ r ∈ s.log.queue, s.prof.attention.getLsbD (r.encode.getD 0 0).toNat = true := by
  simp only [State.attn, State.attends, Record.encode_head, Bool.or_eq_true, beq_iff_eq, List.any_eq_true]

/-- A strobe output is high exactly in ON (R151). -/
theorem State.strobe_iff (s : State) (c : Fin 4) : s.pins.strobes.get c = true ↔ (s.generators.get c).phase = .on := by
  rw [State.pins, vector_get_map, Generator.output, beq_iff_eq]

/-- HCODE shows one bit of the word in each tick (R144). -/
theorem State.hcode_word {s : State} {w : HeadWord} (h : s.sequencer.headWord = some w) :
    s.hcode = w.bits.getD (s.now - w.start) false := by
  unfold State.hcode; rw [h]

/-- The bits of a head code word (R144). -/
theorem HeadWord.bits_getD (w : HeadWord) :
    w.bits.getD 0 false = true ∧
    (w.bits.getD 1 false = true ↔ 2 ≤ w.mode.val) ∧
    (w.bits.getD 2 false = true ↔ w.mode.val % 2 = 1) ∧
    (∀ k, k < 8 → w.bits.getD (3 + k) false = w.code.getMsbD k) ∧
    ∀ k, 11 ≤ k → w.bits.getD k false = false := by
  have mode : ∀ m : Fin 4, (m.val.testBit 1 = true ↔ 2 ≤ m.val) ∧ (m.val.testBit 0 = true ↔ m.val % 2 = 1) := by decide
  refine ⟨rfl, (mode w.mode).1, (mode w.mode).2, fun k hk => ?_, fun k hk => ?_⟩
  · rw [List.getD_eq_getElem?_getD, HeadWord.bits, List.getElem?_append_right (by simp)]
    simp [getElem?_bitsOfByte w.code hk]
  · rw [List.getD_eq_getElem?_getD, List.getElem?_eq_none (by simpa [HeadWord.bits, bitsOfByte] using hk)]
    rfl

theorem State.noteReleased_sending {s : State} {x : Transmission} (h : s.transceiver.sending = some x) :
    s.noteReleased = (symbolsOf x.note.encode).getD (s.now - x.start) (true, true) := by
  unfold State.noteReleased; rw [h]

/-- Settles O38. -/
theorem outputPinsShowTheState : Obligations.OutputPinsShowTheState := by
  intro s
  refine ⟨s.attn_iff, rfl, rfl, rfl, s.strobe_iff, fun h => ?_, fun w h => ?_, fun h => ?_, fun x h => ?_⟩
  · change s.hcode = false
    unfold State.hcode; rw [h]
  · change (_ → s.hcode = true) ∧ (_ → (s.hcode = true ↔ _)) ∧ (_ → (s.hcode = true ↔ _)) ∧ (∀ k, _ → _ → s.hcode = _) ∧
      (_ → s.hcode = false)
    obtain ⟨start, high, low, code, rest⟩ := w.bits_getD
    rw [State.hcode_word h]
    refine ⟨fun e => ?_, fun e => ?_, fun e => ?_, fun k hk e => ?_, fun e => rest _ (by omega)⟩
    · rw [e, Nat.sub_self, start]
    · rwa [e, Nat.add_sub_cancel_left]
    · rwa [e, Nat.add_sub_cancel_left]
    · rw [e, Nat.add_assoc, Nat.add_sub_cancel_left, code k hk]
  · change s.noteReleased = _
    unfold State.noteReleased; rw [h]
  · change (∀ k byte, _ → _ → s.noteReleased = _) ∧ (_ → s.noteReleased = _)
    rw [State.noteReleased_sending h, getD_symbolsOf]
    refine ⟨fun k byte hb e => ?_, fun e => ?_⟩
    · rw [e, Nat.add_sub_cancel_left, hb]
      cases hbit : byte.getMsbD (k % 8) <;> simp [symbolOfBit, hbit]
    · have past : x.note.encode[(s.now - x.start) / 8]? = none :=
        List.getElem?_eq_none (by rw [Note.encode_length]; omega)
      rw [past]
      rfl

end Sys2Proof.Machine
end

section
/-! SUPPORT. The timebase: the loss of TCLK, its return with what waited for a tick, and the end of settling (O55). -/

namespace Sys2Proof.Machine

/-! ### A command at a tick -/

/-- The command of a transaction that is handed over: its image is whole, and its command byte is assigned. -/
def HandedOver (c : Instr) : Prop :=
  isCommand c = true ∧ (∀ image, c = .setProfile image → 14 ≤ image.length) ∧
    (∀ i image, c = .writePlan i image → 72 ≤ image.length) ∧
    ∀ code argument, c = .unassignedCommand code argument → assignedCodes.contains code = true

/-- At a tick the action of a command that is handed over is the command (R169). -/
theorem exec_handedOver {c : Instr} {s : State} (ht : s.ticking = true) (hc : HandedOver c) :
    exec c s = .next (portAction c s) := by
  obtain ⟨command, profile, plan, code⟩ := hc
  cases c
  case setProfile image =>
    exact congrArg Host.Outcome.next
      ((State.handOverImage_whole (profile image rfl)).trans (State.handOver_ticking ht))
  case writePlan i image =>
    exact congrArg Host.Outcome.next
      ((State.handOverImage_whole (plan i image rfl)).trans (State.handOver_ticking ht))
  case unassignedCommand code' argument =>
    exact congrArg Host.Outcome.next ((if_pos (code code' argument rfl)).trans (State.handOver_ticking ht))
  case profileDone | readPlan | verify | join | leaveFrameEnd | leaveSegmentEnd | leaveImmediate | restart | clearFault
    | stage | unstage | readySwitch | readyKeep | unready | readStatus | readLog | readRoster | readGrants =>
    exact State.command_next ht
  all_goals cases command

/-! ### The loss (R177) -/

/-- A loss as the barrier unit and the timebase's own mark of it see it. -/
def State.lossNoted (s : State) : State :=
  { s with timebase := { s.timebase with lost := true }, barrier := (s.elapse 1).barrier }

theorem timebaseLossEffect_lost {s : State} (h : s.timebase.lost = true) : timebaseLossEffect s = s := if_pos h

theorem timebaseLossEffect_held {s : State} (h : s.timebase.lost = false) (hr : s.rstnLow = true) :
    timebaseLossEffect s = { s with timebase := { s.timebase with lost := true } } := by
  unfold timebaseLossEffect
  exact (if_neg (by simp [h])).trans (if_pos hr)

theorem timebaseLossEffect_loses {s : State} (h : s.timebase.lost = false) (hr : s.rstnLow = false) :
    timebaseLossEffect s = s.lossNoted.loseTimebase := by
  unfold timebaseLossEffect
  exact (if_neg (by simp [h])).trans (if_neg (by simp [hr]))

theorem State.loseTimebase_unconfigured {s : State} (h : s.membership.state = .unconfigured) :
    s.loseTimebase = s := by
  unfold State.loseTimebase
  exact (if_neg (by rw [h]; decide)).trans (if_pos h)

theorem State.loseTimebase_resting {s : State} (h : s.membership.state = .standby ∨ s.membership.state = .detached) :
    s.loseTimebase = { s with timebase := s.timebase.unlock } := by
  unfold State.loseTimebase
  rcases h with h | h
  · exact (if_neg (by rw [h]; decide)).trans (if_neg (by rw [h]; decide))
  · exact (if_neg (by rw [h]; decide)).trans (if_neg (by rw [h]; decide))

theorem State.loseTimebase_inRig {s : State} (h : s.membership.state.inRig = true) :
    s.loseTimebase =
      { s.clearRig .detached (some .timebaseLost) false with
        timebase :=
          { s.timebase.unlock with
            deferredRecords := s.timebase.deferredRecords ++ s.detachRecords .timebaseLost } } := if_pos h

/-- The records of the detach are those of the frame as it stands at the loss (R91, R177). -/
theorem State.lossNoted_detachRecords (s : State) :
    s.lossNoted.detachRecords .timebaseLost = s.detachRecords .timebaseLost := by
  have frameNo : s.lossNoted.barrier.frameNo = s.barrier.frameNo := Barrier.elapse_frameNo _ _ _
  have frame : s.lossNoted.cutGenerators.frameRecord true = s.cutGenerators.frameRecord true := by
    refine State.frameRecord_congr true rfl rfl rfl rfl ?_ ?_ ?_ rfl rfl rfl rfl
    · exact Barrier.elapse_late _ _ _
    · exact Barrier.elapse_runFrame _ _ _
    · exact Barrier.elapse_runEpoch _ _ _
  unfold State.detachRecords State.record
  rw [frame, frameNo]
  rfl

/-! ### The return (R176, R177) -/

/-- The first tick after a loss, before what waited for it happens: the clock moves, settling begins in a station with a
profile, and nothing waits any more (R176). -/
def State.returned (s : State) (choices : Nat) : State :=
  { s with
    now := s.now + 1
    timebase :=
      { s.timebase with
        lost := false
        deferredRecords := []
        lock := if s.profile.isSome then .settling else s.timebase.lock
        settle :=
          if s.profile.isSome then 1
          else if s.timebase.lock = .settling then min 2000 (s.timebase.settle + 1)
          else s.timebase.settle }
    port := { s.port with waiting := [] }
    choices }

theorem State.edgesReturn_firstTick (s : State) :
    s.edgesReturn.firstTick = s.returned (s.choices + s.returning.length) := by
  have timebase : (s.edgesReturn.elapse 1).timebase = (s.returned (s.choices + s.returning.length)).timebase := by
    unfold State.edgesReturn State.elapse Timebase.resume State.returned
    cases s.profile.isSome
    · by_cases h : s.timebase.lock = .settling <;> simp [h, Config.settleTicks]
    · simp [Config.settleTicks]
  rw [State.firstTick, State.elapse_one] at *
  simp only at timebase
  rw [timebase]
  rfl

theorem State.edgesReturn_eq (s : State) :
    s.edgesReturn =
      { s with
        timebase :=
          { s.timebase with
            lost := false
            deferredRecords := []
            lock := if s.profile.isSome then .settling else s.timebase.lock
            settle := if s.profile.isSome then 0 else s.timebase.settle }
        port := { s.port with waiting := [] }
        choices := s.choices + s.returning.length } := by
  unfold State.edgesReturn Timebase.resume
  cases s.profile.isSome <;> rfl

theorem State.returned_ticking {s : State} (h : s.rstnLow = false) (choices : Nat) :
    (s.returned choices).ticking = true := by
  simp [State.ticking, State.returned, h]

theorem tclkReturnEffect_returns {s : State} (h : s.timebase.lost = true) (hr : s.rstnLow = false) :
    tclkReturnEffect s = s.returning.foldl State.carryOut (s.returned (s.choices + s.returning.length)) := by
  unfold tclkReturnEffect
  rw [if_pos h, if_neg (by simp [hr]), State.edgesReturn_firstTick]

theorem tclkReturnEffect_held {s : State} (h : s.timebase.lost = true) (hr : s.rstnLow = true) :
    tclkReturnEffect s = s.edgesReturn := by
  unfold tclkReturnEffect
  rw [if_pos h, if_pos hr]

/-- Records alone are appended in their order. -/
theorem foldl_carryOut_records (rs : List Record) (s : State) :
    (rs.map Returning.record).foldl State.carryOut s = { s with log := rs.foldl StationLog.append s.log } := by
  induction rs generalizing s with
  | nil => rfl
  | cons r rs ih => exact ih _

/-- Two ways to carry out what waited agree when they agree on each item at a tick. -/
theorem foldl_carryOut_congr {f : State → Returning → State} {order : List Returning} {s : State}
    (ht : s.ticking = true) (h : ∀ u : State, u.ticking = true → ∀ x ∈ order, f u x = u.carryOut x) :
    order.foldl f s = order.foldl State.carryOut s := by
  induction order generalizing s with
  | nil => rfl
  | cons x order ih =>
    rw [List.foldl_cons, List.foldl_cons, h s ht x List.mem_cons_self]
    exact ih (by rw [State.carryOut_ticking]; exact ht) fun u hu y hy => h u hu y (List.mem_cons_of_mem _ hy)

theorem State.returning_records {s : State} (h : s.port.waiting = []) :
    s.returning = s.timebase.deferredRecords.map .record := by
  unfold State.returning
  rw [h]
  cases s.timebase.deferredRecords <;> simp [mergeReturning]

theorem State.returning_command {s : State} {c : Instr} {cut : Bool} (hr : s.timebase.deferredRecords = [])
    (h : s.port.waiting = [(c, cut)]) : s.returning = [.command c cut] := by
  unfold State.returning
  rw [hr, h]
  rfl

/-- A command comes out of the waiting ones. -/
theorem State.mem_waiting_of_returning {s : State} {c : Instr} {cut : Bool} (h : Returning.command c cut ∈ s.returning) :
    (c, cut) ∈ s.port.waiting := by
  have keeps := (mergeReturning_keeps (s.timebase.deferredRecords.length + s.port.waiting.length) s.choices
    s.timebase.deferredRecords s.port.waiting).2
  rw [← keeps]
  exact List.mem_filterMap.2 ⟨_, h, rfl⟩

/-! ### The end of settling (R176) -/

theorem settleCountCompleteEffect_settling {s : State} (h : s.timebase.lock = .settling)
    (hs : s.timebase.settle ≤ 2000) :
    settleCountCompleteEffect s =
      { s with
        now := s.now + (2000 - s.timebase.settle)
        timebase := { s.timebase with lock := .locked, settle := 2000 }
        barrier := (s.elapse (2000 - s.timebase.settle)).barrier } := by
  have full : min Config.settleTicks (s.timebase.settle + (2000 - s.timebase.settle)) = 2000 := by
    change min 2000 _ = _
    omega
  unfold settleCountCompleteEffect State.elapse
  simp only [h, if_true]
  rw [show Config.settleTicks - s.timebase.settle = 2000 - s.timebase.settle from rfl, full]

theorem settleCountCompleteEffect_not {s : State} (h : s.timebase.lock ≠ .settling) : settleCountCompleteEffect s = s :=
  if_neg h

/-- Settles O55. -/
theorem timebaseLossReturnAndSettling : Obligations.TimebaseLossReturnAndSettling := by
  intro s
  refine ⟨fun hl hr => ?loss, fun hl => congrArg Host.Outcome.next (timebaseLossEffect_lost hl),
    fun hl hr => congrArg Host.Outcome.next (timebaseLossEffect_held hl hr), s.membership.state.inRig_iff, ?returns,
    fun hl hr => ?held, fun hl => ?nothing, fun ht hs hn => ?settles, fun hs => ?unsettled⟩
  case loss =>
    refine ⟨_, congrArg Host.Outcome.next (timebaseLossEffect_loses hl hr), ?_⟩
    rcases hrig : s.membership.state.inRig with _ | _
    · have out := (s.membership.state.not_inRig_iff).1 hrig
      by_cases hu : s.membership.state = .unconfigured
      · rw [State.loseTimebase_unconfigured (s := s.lossNoted) hu]
        exact ⟨rfl, rfl, rfl, rfl, fun _ => rfl, fun h => absurd hu h, fun h => by rw [hu] at h; simp at h, nofun,
          rfl, rfl, rfl, rfl⟩
      · have rest : s.membership.state = .standby ∨ s.membership.state = .detached := by tauto
        rw [State.loseTimebase_resting (s := s.lossNoted) rest]
        exact ⟨rfl, rfl, rfl, rfl, fun h => absurd h hu, fun _ => ⟨rfl, rfl⟩, fun _ => rfl, nofun, rfl, rfl, rfl, rfl⟩
    · have hu := StationState.ne_unconfigured_of_inRig hrig
      have hno : ¬ (s.membership.state = .standby ∨ s.membership.state = .detached) := by
        rintro (h | h) <;> rw [h] at hrig <;> cases hrig
      rw [State.loseTimebase_inRig (s := s.lossNoted) hrig, State.lossNoted_detachRecords]
      refine ⟨rfl, rfl, rfl, rfl, fun h => absurd h hu, fun _ => ⟨rfl, rfl⟩, fun h => absurd h hno,
        fun _ => ⟨rfl, rfl, rfl, rfl, rfl, rfl, rfl, rfl, rfl, rfl, rfl, ?_, ?_⟩, rfl, rfl, rfl, rfl⟩
      · exact Barrier.elapse_succ_sampled s.frameIn 0 s.barrier
      · exact (List.append_assoc _ _ _).symm
  case returns =>
    intro begun hl hr
    have run := tclkReturnEffect_returns hl hr
    have ht := State.returned_ticking hr (s.choices + s.returning.length)
    refine ⟨fun hw => ⟨s.choices + s.returning.length, congrArg Host.Outcome.next ?_⟩,
      fun hd c hc hp hpl hcode hw => ⟨s.choices + s.returning.length, ?_⟩,
      fun hall => ⟨s.choices + s.returning.length, s.returning, ?_, ?_, ?_, ?_⟩⟩
    · refine run.trans ?_
      rw [State.returning_records hw, foldl_carryOut_records]
      rfl
    · refine (congrArg Host.Outcome.next run).trans ?_
      rw [State.returning_command hd hw] at *
      exact (exec_handedOver ht ⟨hc, hp, hpl, hcode⟩).symm
    · exact (mergeReturning_keeps _ _ _ _).1
    · exact (mergeReturning_keeps _ _ _ _).2
    · intro before cut after_ e r f hmem hbody
      have notFrame := mergeReturning_frame_before_restart _ _ _ _ (Nat.le_refl _) before cut after_ e r hmem
      simp [Record.isFrame, hbody, RecordBody.code] at notFrame
    · refine congrArg Host.Outcome.next (run.trans (Eq.symm (foldl_carryOut_congr ht ?_)))
      intro u hu x hx
      cases x with
      | record r => rfl
      | command c cut =>
        have whole : HandedOver c := hall c cut (State.mem_waiting_of_returning hx)
        simp only [exec_handedOver hu whole, State.carryOut, State.takeWaiting]
        split
        · cases (portAction c u).port.logTaken <;> rfl
        · rfl
  case held =>
    refine ⟨_, congrArg Host.Outcome.next ((tclkReturnEffect_held hl hr).trans s.edgesReturn_eq)⟩
  case nothing =>
    exact congrArg Host.Outcome.next (if_neg (by simp [hl]))
  case settles =>
    refine ⟨_, (State.event_next ht).trans (congrArg Host.Outcome.next (settleCountCompleteEffect_settling hs hn)), ?_⟩
    and_intros <;> rfl
  case unsettled =>
    exact congrArg Host.Outcome.next (State.onTick_elim (p := (· = s)) rfl (settleCountCompleteEffect_not hs))

end Sys2Proof.Machine
end

section
/-! SUPPORT. The frame mark: the records it appends, the roster it opens a window with, and a listener's mark (O29). -/

namespace Sys2Proof.Machine

/-! ### Records of one tick -/

/-- The records of a tick are appended chain by chain in some order that keeps each chain's own (R164). -/
theorem State.logChains_order (chains : List (List Record)) (s : State) :
    ∃ rs : List Record, rs.Perm chains.flatten ∧ (∀ c ∈ chains, c.Sublist rs) ∧
      (s.logChains chains).log = rs.foldl StationLog.append s.log :=
  ⟨mergeAll s.choices chains, mergeAll_perm _ _, fun _ => mergeAll_sublist _, rfl⟩

/-- The MEMBER_LEFT record of a departed entry (R48). -/
def State.leftRecordOf (s : State) (m : Member) : Record :=
  { body := .memberLeft m.index, frame := (m.stamp.getD (s.barrier.frameNo, s.epochs.epoch)).1
    epoch := (m.stamp.getD (s.barrier.frameNo, s.epochs.epoch)).2 }

theorem State.leftRecord_eq (s : State) (m : Member) :
    s.leftRecord m = if m.removal == .left then some (s.leftRecordOf m) else none := by
  unfold State.leftRecord State.leftRecordOf
  cases m.removal <;> cases m.stamp <;> rfl

/-- Each entry removed with LEFT gives one record (R48, R53). -/
theorem State.leftRecords_eq (s : State) :
    s.leftRecords = (s.roster.members.filter fun m => m.removal == .left).map s.leftRecordOf := by
  rw [State.leftRecords, ← List.filterMap_eq_map, List.filterMap_filter]
  exact List.filterMap_congr fun m _ => s.leftRecord_eq m

/-! ### Sets of stations -/

theorem getLsbD_one_shift : ∀ i j : Fin 16, (1#16 <<< j.val).getLsbD i.val = true ↔ i = j := by decide

theorem getLsbD_foldl_setOf (indices : List (Fin 16)) (set : StationSet) (i : Fin 16) :
    (indices.foldl (fun set i => set ||| (1#16 <<< i.val)) set).getLsbD i.val = true ↔
      set.getLsbD i.val = true ∨ i ∈ indices := by
  induction indices generalizing set with
  | nil => simp
  | cons j rest ih =>
    rw [List.foldl_cons, ih, BitVec.getLsbD_or, Bool.or_eq_true, getLsbD_one_shift, List.mem_cons, or_assoc]

/-- The set of a list holds exactly the list's stations. -/
theorem getLsbD_setOf (indices : List (Fin 16)) (i : Fin 16) :
    (setOf indices).getLsbD i.val = true ↔ i ∈ indices := by
  rw [setOf, getLsbD_foldl_setOf]
  simp

/-- The set of the indices of the members of one kind. -/
theorem getLsbD_setOf_members (p : Member → Bool) (members : List Member) (i : Fin 16) :
    (setOf ((members.filter p).map fun m => m.index)).getLsbD i.val = true ↔
      ∃ m ∈ members, m.index = i ∧ p m = true := by
  rw [getLsbD_setOf]
  simp [and_comm, and_left_comm, and_assoc]

/-! ### The roster at a mark (R45, R48, R51, R140) -/

theorem MemberState.expectable_eq (x : MemberState) : x.expectable = (x != .lost) := by cases x <;> rfl

theorem Roster.atMark_members (r : Roster) :
    r.atMark.members =
      (r.members.filter fun m => m.removal == .none).map fun m => { m with expected := m.state != .lost } := by
  simp only [Roster.atMark, MemberState.expectable_eq]

/-- At a mark the members expected are those not LOST. -/
theorem Roster.expected_atMark {r : Roster} {m : Member} (h : m ∈ r.atMark.members) : m.expected = (m.state != .lost) := by
  rw [Roster.atMark_members] at h
  obtain ⟨m', -, rfl⟩ := List.mem_map.1 h
  rfl

theorem Roster.required_atMark (r : Roster) (i : Fin 16) :
    r.atMark.required.getLsbD i.val = true ↔ ∃ m ∈ r.atMark.members, m.index = i ∧ m.state = .active := by
  refine (getLsbD_setOf_members _ _ i).trans (exists_congr fun m => and_congr_right fun h => and_congr_right fun _ => ?_)
  rw [Roster.expected_atMark h]
  cases m.state <;> decide

theorem Roster.settled_atMark (r : Roster) (i : Fin 16) :
    r.atMark.settled.getLsbD i.val = true ↔
      ∃ m ∈ r.atMark.members, m.index = i ∧ (m.state = .active ∨ m.state = .leaving) := by
  refine (getLsbD_setOf_members _ _ i).trans (exists_congr fun m => and_congr_right fun h => and_congr_right fun _ => ?_)
  cases m.state <;> decide

/-! ### A listener's mark (R3, R4, R13, R74) -/

theorem State.risesNow_pullDue {s : State} (h : s.risesNow = true) : s.barrier.pullDue = false :=
  (s.risesNow_iff.1 h).2.2.2.2

/-- Settles O29. -/
theorem listenerTakesAMark : Obligations.ListenerTakesAMark := by
  intro s ht hr hw hb hs number left
  have pullDue : s.barrier.pullDue = false := State.risesNow_pullDue hr
  refine ⟨s.rising.listenMark, ?_, rfl, rfl, rfl, rfl, rfl, hb, rfl, pullDue, rfl, rfl, rfl, rfl, rfl,
    fun slot => ?_, rfl, rfl, rfl, rfl, Roster.atMark_members _, Roster.required_atMark _, Roster.settled_atMark _, rfl, ?_,
    rfl, rfl, rfl, rfl, rfl, rfl, rfl, rfl, rfl, rfl⟩
  · rw [exec_frameMark_rise ht hr hw, State.actOnMark_listening (s := s.rising) hb hs]
  · change (Vector.replicate 16 SlotOutcome.pending).get slot = .pending
    simp [Vector.get]
  · have chains : s.rising.leftRecords = left := s.rising.leftRecords_eq
    obtain ⟨rs, perm, keeps, log⟩ :=
      ({ s.rising with
        barrier :=
          { s.rising.barrier with
            frameNo := number, stallStart := some s.now, markTick := s.now, stallReported := false } }
        : State).markWindow.logChains_order [s.rising.leftRecords, s.rising.resumedRecords number s.epochs.epoch]
    rw [chains] at perm keeps
    refine ⟨rs, ?_, keeps left (by simp), log⟩
    rwa [List.flatten_cons, List.flatten_singleton] at perm

end Sys2Proof.Machine
end

section
/-! SUPPORT. A mark that begins a frame, in closed form, and the flush frame (O30). -/

namespace Sys2Proof.Machine

/-! ### The state of a frame begun -/

/-- The station at a mark once its own units have made their transition: the membership controller, the cursor and the epoch
unit as given, the rest as the mark found it. -/
def State.transit (m : Membership) (c : Cursor) (e : EpochUnit) (s : State) : State :=
  { s with membership := m, cursor := c, epochs := e }

/-- A frame begun, in closed form: every block that runs it has taken its content, before the records are appended (R4 to R7,
R13, R14, R62, R65, R124, R127, R144, R145). -/
def State.begun (start : FrameStart) (m : Membership) (c : Cursor) (e : EpochUnit) (s : State) : State :=
  let frame := s.frameAtMark start
  let content := c.current.getD .idle
  let gens := s.loadGenerators frame s.epochs.turn.isDue content
  let next := (s.transit m c e).choose (frame + 1)
  { s with
    membership := { m with leavingFrame := (s.transit m { c with lookahead := some next } e).endsPass next }
    cursor := { c with lookahead := some next }
    epochs := { e with announced := false }
    roster := s.roster.atMark
    transceiver := s.transceiver.openAt s.now
    barrier :=
      { s.barrier with
        frameNo := frame, runFrame := frame, runEpoch := e.epoch, markTick := s.now, pullDue := true
        holdStart := some s.now, stallStart := some s.now, stallReported := false, windowDone := false
        minTimeDone := s.minFrameOf content == 0
        minTimeDue := if s.minFrameOf content = 0 then none else some (s.now + s.minFrameOf content)
        exposuresDone := s.exposuresFree content, strobesDone := allSettled gens, late := false }
    resolver := if start != .joining then s.resolver.atMark frame s.epochs.turn.isDue gens else s.resolver
    sequencer := { schedule := s.scheduleFor content, headWord := s.headWordFor content }
    generators := gens }

theorem State.beginFrame_eq {s : State} {start : FrameStart} {m : Membership} {c : Cursor} {e : EpochUnit}
    (h : s.startFrame start (s.frameAtMark start) = s.transit m c e) :
    s.beginFrame start =
      (s.begun start m c e).logChains (s.markRecords start (s.frameAtMark start) (s.begun start m c e)) := by
  unfold State.beginFrame
  simp only [h]
  rfl

/-- The records of a frame begun, in some order that keeps each block's own (R164). -/
theorem State.beginFrame_log {s : State} {start : FrameStart} {m : Membership} {c : Cursor} {e : EpochUnit}
    {own found : List Record}
    (hown : s.endedFrameRecords start ++ s.joinedRecords (s.frameAtMark start) (s.begun start m c e) ++
      s.advanceRecords (s.frameAtMark start) = own)
    (hfound : start.foundedRecords e.epoch = found) :
    ∃ rs : List Record,
      rs.Perm (own ++ s.leftRecords ++ s.resumedRecords (s.frameAtMark start) e.epoch ++ found) ∧
      own.Sublist rs ∧ s.leftRecords.Sublist rs ∧
      ((s.begun start m c e).logChains (s.markRecords start (s.frameAtMark start) (s.begun start m c e))).log =
        rs.foldl StationLog.append s.log := by
  have chains : s.markRecords start (s.frameAtMark start) (s.begun start m c e) =
      [own, s.leftRecords, s.resumedRecords (s.frameAtMark start) e.epoch, found] := by
    rw [← hown, ← hfound]; rfl
  obtain ⟨rs, perm, keeps, log⟩ := (s.begun start m c e).logChains_order
    (s.markRecords start (s.frameAtMark start) (s.begun start m c e))
  rw [chains] at perm keeps
  refine ⟨rs, ?_, keeps own (by simp), keeps s.leftRecords (by simp), log⟩
  simpa [List.append_assoc] using perm

theorem State.rising_leftRecords (s : State) : s.rising.leftRecords = s.leftRecords := rfl

/-! ### What a content runs -/

/-- A content that applies no plan gives the generators nothing and sets no minimum frame time (R6, R150). -/
theorem State.loadGenerators_of_not_apply {content : Content} (h : ∀ e, content ≠ .apply e) (frame : FrameNo) (turn : Bool)
    (s : State) : s.loadGenerators frame turn content = Vector.replicate 4 {} := by
  cases content with
  | apply e => exact absurd rfl (h e)
  | _ => rfl

theorem State.minFrameOf_of_not_apply {content : Content} (h : ∀ e, content ≠ .apply e) (s : State) :
    s.minFrameOf content = 0 := by
  cases content with
  | apply e => exact absurd rfl (h e)
  | _ => rfl

theorem State.headWordFor_of_plan {content : Content} {s : State} {p : Plan} (h : s.headPlan content = some p) :
    s.headWordFor content = some { mode := p.headMode, code := p.headCode, start := s.now } := by
  rw [State.headWordFor, h]; rfl

/-! ### A path of links -/

/-- A chain walk along a path of links that meets no entry twice, to an entry whose link goes no further, meets exactly the
path (R103). -/
theorem chainWalk_path {table : PlanTable} {last : Fin 64} {q : Plan} (hq : table.get last = some q)
    (hend : ∀ n, q.link ≠ .next n) (path : List (Fin 64)) (fuel : Nat) (met : List (Fin 64)) {e : Fin 64}
    (nodup : path.Nodup) (head : path.head? = some e)
    (links : ∀ k a b, path[k]? = some a → path[k + 1]? = some b → ∃ x, table.get a = some x ∧ x.link = .next b)
    (hlast : path.getLast? = some last) (fresh : ∀ x ∈ path, x ∉ met) (length : path.length ≤ fuel) :
    chainWalk table fuel met e = path := by
  induction path generalizing fuel met e with
  | nil => cases head
  | cons a rest ih =>
    obtain rfl : a = e := by simpa using head
    obtain ⟨fuel, rfl⟩ : ∃ n, fuel = n + 1 := ⟨fuel - 1, by simp at length; omega⟩
    have notMet : met.contains a = false := by simpa using fresh a List.mem_cons_self
    unfold chainWalk
    rw [if_neg (by simpa using notMet)]
    cases rest with
    | nil =>
      obtain rfl : a = last := by simpa using hlast
      simp only [hq]
      cases hl : q.link with
      | next n => exact absurd hl (hend n)
      | _ => rfl
    | cons b rest =>
      obtain ⟨x, hx, hlink⟩ := links 0 a b rfl rfl
      have step : chainWalk table fuel (a :: met) b = b :: rest := by
        refine ih fuel (a :: met) (List.nodup_cons.1 nodup).2 rfl (fun k => links (k + 1)) ?_ ?_ (by simpa using length)
        · simpa using hlast
        · intro y hy hmem
          rcases List.mem_cons.1 hmem with rfl | hmem
          · exact (List.nodup_cons.1 nodup).1 hy
          · exact fresh y (List.mem_cons_of_mem _ hy) hmem
      simp only [hx, hlink, step]

/-- The link of the END entry of such a path (R103). -/
theorem endLink_path {table : PlanTable} {e last : Fin 64} {q : Plan} {path : List (Fin 64)}
    (nodup : path.Nodup) (head : path.head? = some e)
    (links : ∀ k a b, path[k]? = some a → path[k + 1]? = some b → ∃ x, table.get a = some x ∧ x.link = .next b)
    (hlast : path.getLast? = some last) (hq : table.get last = some q) (hend : ∀ n, q.link ≠ .next n) :
    endLink table e = some q.link := by
  have length : path.length ≤ 64 := by simpa using nodup.length_le_card
  rw [endLink, chainOf, chainWalk_path hq hend path 64 [] nodup head links hlast (by simp) length, hlast]
  simp [hq]

theorem startLoops_of_repeats {table : PlanTable} {e : Fin 64} {n : Nat} (h : endLink table e = some (.repeats (n + 1))) :
    startLoops table e = .passes (n + 1) := by
  unfold startLoops; rw [h]

theorem startLoops_forever {table : PlanTable} {e : Fin 64} {link : Link} (h : endLink table e = some link)
    (hno : ∀ n, link ≠ .repeats (n + 1)) : startLoops table e = .forever := by
  unfold startLoops; rw [h]
  cases link with
  | repeats n =>
    cases n with
    | zero => rfl
    | succ n => exact absurd rfl (hno n)
  | _ => rfl

/-! ### The flush frame (R78, R79, R123) -/

/-- The cursor at the start of a segment whose start entry is flushed (R123, R125). -/
def State.flushCursor (start : Fin 64) (p : Plan) (s : State) : Cursor :=
  { s.cursor with
    segment := some start, entry := some start, repeatsLeft := p.repeatCount, loopsLeft := startLoops s.table start
    parked := false, current := some (.flush start), headSent := some p.headMode, lastRepetition := false }

/-- The membership controller of a station that flushes (R78, R79, R86). -/
def State.flushMembership (founder : Bool) (p : Plan) (s : State) : Membership :=
  { s.membership with
    state := .flushing, founder, adopted := none
    pendingLeave :=
      if p.link = .depart ∧ s.membership.pendingLeave = none then some .segmentEnd else s.membership.pendingLeave }

/-- Reaching an entry sets the pending leave mode where the entry departs (R86, R126). -/
theorem State.reachEntry_eq {s : State} {e : Fin 64} {p : Plan} (he : s.cursor.entry = some e) (hp : s.plan? e = some p)
    (hl : s.membership.state ≠ .leaving) :
    s.reachEntry =
      { s with
        membership :=
          { s.membership with
            pendingLeave :=
              if p.link = .depart ∧ s.membership.pendingLeave = none then some .segmentEnd
              else s.membership.pendingLeave } } := by
  unfold State.reachEntry
  simp only [he, Option.bind_some, hp, Option.map_some]
  cases hlink : p.link with
  | depart => cases hpend : s.membership.pendingLeave <;> simp [hl]; rw [← hpend]
  | _ => simp

/-- The station with its state changed to FLUSHING (R78, R79). -/
def State.flushing (founder : Bool) (s : State) : State :=
  { s with membership := { s.membership with state := .flushing, founder, adopted := none } }

theorem State.startFlush_of_join {s : State} {start : Fin 64} (founder : Bool) (hj : s.membership.joinSegment = some start) :
    s.startFlush founder = (((s.flushing founder).startSegment start).reachEntry).makeCurrent (.flush start) := by
  unfold State.startFlush
  dsimp only
  split
  · next x hx =>
    obtain rfl : start = x := Option.some.inj (hj.symm.trans hx)
    rfl
  · next hx => rw [hj] at hx; cases hx

theorem State.startFlush_eq {s : State} {start : Fin 64} {p : Plan} (founder : Bool)
    (hj : s.membership.joinSegment = some start) (hp : s.plan? start = some p) :
    s.startFlush founder = s.transit (s.flushMembership founder p) (s.flushCursor start p) s.epochs := by
  have count : s.repeatCountOf start = p.repeatCount := by simp [State.repeatCountOf, hp]
  have plan (m : Membership) (c : Cursor) : (s.transit m c s.epochs).plan? start = some p := hp
  have current (m : Membership) (c : Cursor) :
      (s.transit m c s.epochs).makeCurrent (.flush start) =
        s.transit m { c with current := some (.flush start), headSent := some p.headMode, lastRepetition := false }
          s.epochs := by
    rw [State.makeCurrent_of_not_apply (content := .flush start) nofun, State.withCurrent, State.headPlan, plan]
    rfl
  have reached := State.reachEntry_eq (s := (s.flushing founder).startSegment start) (e := start) (p := p) rfl hp nofun
  rw [State.startFlush_of_join founder hj, reached]
  refine (current (s.flushMembership founder p) ((s.flushing founder).startSegment start).cursor).trans ?_
  rw [State.flushCursor, ← count]
  rfl

/-! ### The lookahead (R124, R127) -/

theorem State.chooseRunning_parked {s : State} (h : s.cursor.parked = true) (frame : FrameNo) :
    s.chooseRunning frame = .parked := if_pos h

theorem State.chooseRunning_entry {s : State} {e : Fin 64} {p : Plan} (h : s.cursor.parked = false)
    (he : s.cursor.entry = some e) (hp : s.plan? e = some p) (frame : FrameNo) :
    s.chooseRunning frame = chooseEntry e p s.cursor.headSent frame := by
  simp [State.chooseRunning, h, he, hp]

theorem State.choose_not_leaving {s : State} (h : s.membership.state ≠ .leaving) (frame : FrameNo) :
    s.choose frame = s.chooseRunning frame := if_neg h

theorem State.choose_leaving {s : State} (h : s.membership.state = .leaving) (frame : FrameNo) :
    s.choose frame = .leave := if_pos h

/-- The last frame of a pass before a segment-end leave (R127). -/
theorem State.endsPass_apply_iff {s : State} {e : Fin 64} {p : Plan} (hp : s.plan? e = some p) :
    s.endsPass (.apply e) = true ↔
      s.membership.pendingLeave = some .segmentEnd ∧ s.cursor.repeatsLeft = 1 ∧ ∀ n, p.link ≠ .next n := by
  simp only [State.endsPass, hp, Option.map_some, Bool.and_eq_true, beq_iff_eq, and_assoc]
  cases p.link <;> simp

/-- What a flushing station is to do next: its start entry, whose head mode is the one last sent. -/
theorem State.choose_flush {s : State} {start : Fin 64} {p : Plan} (founder : Bool) (frame : FrameNo)
    (hp : s.plan? start = some p) :
    (s.transit (s.flushMembership founder p) (s.flushCursor start p) s.epochs).choose frame =
      if frame.toNat % p.divisor = p.phase then .apply start else .idle := by
  have entry : chooseEntry start p (some p.headMode) frame =
      if frame.toNat % p.divisor = p.phase then .apply start else .idle := by
    unfold chooseEntry
    by_cases h : frame.toNat % p.divisor = p.phase <;> simp [h]
  have notLeaving : (s.transit (s.flushMembership founder p) (s.flushCursor start p) s.epochs).membership.state ≠ .leaving :=
    nofun
  rw [State.choose_not_leaving notLeaving]
  exact (State.chooseRunning_entry (s := s.transit (s.flushMembership founder p) (s.flushCursor start p) s.epochs)
    rfl rfl hp _).trans entry

/-! ### The mark of a JOINING or FOUNDING station -/

/-- The kind of mark that starts the flush frame. -/
def StationState.flushStart (x : StationState) : FrameStart := if x = .founding then .founding else .joining

/-- The flush frame as it is begun. -/
def State.flushFrame (start : Fin 64) (p : Plan) (s : State) : State :=
  s.begun s.membership.state.flushStart (s.flushMembership (s.membership.state == .founding) p) (s.flushCursor start p)
    s.epochs

theorem State.actOnMark_flush {s : State} {start : Fin 64} {p : Plan} (hb : s.barrier.phase = .watching)
    (hst : s.membership.state = .joining ∨ s.membership.state = .founding)
    (hj : s.membership.joinSegment = some start) (hp : s.plan? start = some p) :
    s.actOnMark =
      (s.flushFrame start p).logChains (s.markRecords s.membership.state.flushStart
        (s.frameAtMark s.membership.state.flushStart) (s.flushFrame start p)) := by
  unfold State.flushFrame
  rcases hst with hst | hst
  · rw [State.actOnMark_joining hb hst, hst]
    exact State.beginFrame_eq (State.startFlush_eq false hj hp)
  · rw [State.actOnMark_founding hb hst, hst]
    exact State.beginFrame_eq (State.startFlush_eq true hj hp)

theorem State.flushFrame_joining {s : State} (start : Fin 64) (p : Plan) (h : s.membership.state = .joining) :
    s.flushFrame start p = s.begun .joining (s.flushMembership false p) (s.flushCursor start p) s.epochs := by
  unfold State.flushFrame; rw [h]; rfl

theorem State.flushFrame_founding {s : State} (start : Fin 64) (p : Plan) (h : s.membership.state = .founding) :
    s.flushFrame start p = s.begun .founding (s.flushMembership true p) (s.flushCursor start p) s.epochs := by
  unfold State.flushFrame; rw [h]; rfl

/-- The leaving-frame marker of the flush frame's successor (R127). -/
theorem State.flushFrame_leavingFrame {s : State} {start : Fin 64} {p : Plan} (hp : s.plan? start = some p)
    {next : Content}
    (hnext : next = if ((s.flushFrame start p).barrier.frameNo + 1).toNat % p.divisor = p.phase then .apply start else .idle) :
    (s.flushFrame start p).membership.leavingFrame = true ↔
      (s.flushFrame start p).membership.pendingLeave = some .segmentEnd ∧ p.repeatCount = 1 ∧
        some next = some (.apply start) ∧ ∀ n, p.link ≠ .next n := by
  have chosen := State.choose_flush (s := s) (s.membership.state == .founding)
    (s.frameAtMark s.membership.state.flushStart + 1) hp
  have marker : (s.flushFrame start p).membership.leavingFrame =
      (s.transit (s.flushMembership (s.membership.state == .founding) p)
        { s.flushCursor start p with lookahead := some next } s.epochs).endsPass next := by
    rw [hnext]
    exact congrArg (fun next => (s.transit (s.flushMembership (s.membership.state == .founding) p)
      { s.flushCursor start p with lookahead := some next } s.epochs).endsPass next) chosen
  rw [marker]
  split at hnext
  · rw [hnext]
    refine Iff.trans (State.endsPass_apply_iff (p := p) ?_) ?_
    · exact hp
    exact and_congr_right fun _ => and_congr_right fun _ => (and_iff_right rfl).symm
  · rw [hnext]
    exact ⟨nofun, fun h => nomatch h.2.2.1⟩

/-- At the mark that starts the flush frame no frame of the station ends and no advance is due. -/
theorem State.flush_ownRecords {s : State} (frame : FrameNo) (after_ : State)
    (hst : s.membership.state = .joining ∨ s.membership.state = .founding) (hturn : s.epochs.turn = .idle) :
    s.endedFrameRecords s.membership.state.flushStart ++ s.joinedRecords frame after_ ++ s.advanceRecords frame = [] := by
  have advance : s.advanceRecords frame = [] := by unfold State.advanceRecords; rw [hturn]
  have joined : s.joinedRecords frame after_ = [] := if_neg fun h => by rcases hst with e | e <;> rw [e] at h <;> cases h.1
  rw [advance, joined]
  rcases hst with h | h <;> rw [h] <;> rfl

theorem StationState.foundedRecords_flushStart (x : StationState) (epoch : EpochNo) :
    x.flushStart.foundedRecords epoch =
      if x = .founding then [{ body := .founded, frame := 0, epoch }] else [] := by
  unfold StationState.flushStart
  split <;> rfl

theorem allSettled_idle : allSettled (Vector.replicate 4 {}) = true := by decide

/-- Settles O30. -/
theorem firstMarkStartsTheFlushFrame : Obligations.FirstMarkStartsTheFlushFrame := by
  intro start p s ht hr hw hb hj hp hturn hst left
  have run := exec_frameMark_rise ht hr hw
  rw [State.actOnMark_flush (s := s.rising) hb hst hj hp] at run
  have lookahead : (s.rising.flushFrame start p).cursor.lookahead =
      some (if ((s.rising.flushFrame start p).barrier.frameNo + 1).toNat % p.divisor = p.phase then .apply start
        else .idle) := congrArg some (State.choose_flush (s := s.rising) _ _ hp)
  refine ⟨_, run, rfl, fun h => ?joining, fun h => ?founding, ?log, rfl, ?leavingFrame, rfl,
    fun path last q nodup head links hlast hq hend => ?loops, rfl, rfl, rfl, rfl, rfl, rfl, rfl, rfl, ?strobes, rfl, rfl,
    rfl, rfl, rfl, rfl, rfl, lookahead, ?sequencer, get_idleGenerators, rfl, rfl, rfl, rfl, rfl, rfl, rfl, rfl, rfl⟩
  case joining =>
    change (s.rising.flushFrame start p).barrier.frameNo = _ ∧ (s.rising.flushFrame start p).membership.founder = _ ∧
      (s.rising.flushFrame start p).resolver = _
    rw [State.flushFrame_joining (s := s.rising) start p h]
    exact ⟨rfl, rfl, rfl⟩
  case founding =>
    change (s.rising.flushFrame start p).barrier.frameNo = _ ∧ (s.rising.flushFrame start p).membership.founder = _ ∧
      (s.rising.flushFrame start p).resolver = _
    rw [State.flushFrame_founding (s := s.rising) start p h]
    have turn : s.epochs.turn.isDue = false := by rw [hturn]; rfl
    have resolver : (s.rising.begun .founding (s.rising.flushMembership true p) (s.rising.flushCursor start p)
        s.rising.epochs).resolver = s.resolver.atMark 0 s.epochs.turn.isDue (Vector.replicate 4 {}) := rfl
    rw [resolver, turn]
    exact ⟨rfl, rfl, rfl⟩
  case log =>
    have hown : s.rising.endedFrameRecords s.rising.membership.state.flushStart ++
        s.rising.joinedRecords (s.rising.frameAtMark s.rising.membership.state.flushStart) (s.rising.flushFrame start p) ++
        s.rising.advanceRecords (s.rising.frameAtMark s.rising.membership.state.flushStart) = [] :=
      State.flush_ownRecords (s := s.rising) _ _ hst hturn
    obtain ⟨rs, perm, -, keeps, log⟩ := State.beginFrame_log hown (StationState.foundedRecords_flushStart _ _)
    have hleft : s.rising.leftRecords = left := s.rising.leftRecords_eq
    rw [hleft] at perm keeps
    exact ⟨rs, perm, keeps, log⟩
  case leavingFrame =>
    refine (State.flushFrame_leavingFrame (s := s.rising) hp rfl).trans ?_
    rw [← lookahead]
    rfl
  case loops =>
    have link := endLink_path nodup head links hlast hq hend
    exact ⟨fun n hn => startLoops_of_repeats (link.trans (congrArg some hn)), startLoops_forever link⟩
  case strobes => exact allSettled_idle
  case sequencer =>
    have schedule : s.scheduleFor (.flush start) =
        [(s.now + p.exposureOffset, s.now + p.exposureOffset + p.exposureTime)] := by simp [State.scheduleFor, hp]
    change ({ schedule := s.scheduleFor (.flush start), headWord := s.headWordFor (.flush start) } : Sequencer) = _
    rw [schedule, State.headWordFor_of_plan (content := .flush start) hp]

end Sys2Proof.Machine
end

section
/-! SUPPORT. A participant's mark: the content made current and the blocks that run it (O31). -/

namespace Sys2Proof.Machine

/-! ### Making a content current (R125) -/

theorem State.makeCurrent_current (content : Content) (s : State) :
    (s.makeCurrent content).cursor.current = some content := (State.makeCurrent_runs content s).current

theorem State.makeCurrent_headSent {content : Content} {s : State} {p : Plan} (h : s.headPlan content = some p) :
    (s.makeCurrent content).cursor.headSent = some p.headMode := by
  rw [(State.makeCurrent_runs content s).headSent, State.withCurrent, h]
  rfl

/-- The transition of a station that makes a content current, in closed form. -/
theorem State.makeCurrent_transit (content : Content) (s : State) :
    s.makeCurrent content =
      s.transit { s.membership with pendingLeave := (s.makeCurrent content).membership.pendingLeave }
        (s.makeCurrent content).cursor s.epochs :=
  State.makeCurrent_frame content s

/-! ### The blocks that run a content (R6, R7, R144, R145, R150) -/

/-- The blocks of `t` run a content taken in `s`. -/
structure ContentRuns (content : Content) (s t : State) : Prop where
  sequencer : t.sequencer = { schedule := s.scheduleFor content, headWord := s.headWordFor content }
  minTimeDone : t.barrier.minTimeDone = (s.minFrameOf content == 0)
  minTimeDue : t.barrier.minTimeDue = if s.minFrameOf content = 0 then none else some (s.now + s.minFrameOf content)
  exposuresDone : t.barrier.exposuresDone = s.exposuresFree content
  strobesDone : t.barrier.strobesDone = allSettled t.generators
  generators : ∃ frame turn, t.generators = s.loadGenerators frame turn content
  inUse : t.resolver.inUse = grantedLanes t.generators
  headSent : ∀ p, s.headPlan content = some p → t.cursor.headSent = some p.headMode
  position : (∀ e, content ≠ .apply e) →
    t.cursor.entry = s.cursor.entry ∧ t.cursor.repeatsLeft = s.cursor.repeatsLeft

theorem grantedLanes_idle : grantedLanes (Vector.replicate 4 {}) = 0 := by decide

theorem Content.ne_apply_of_rest {content : Content} (h : content = .idle ∨ content = .parked ∨ content = .abstain) :
    ∀ e, content ≠ .apply e := by
  rintro e rfl
  rcases h with h | h | h <;> cases h

namespace ContentRuns
variable {content : Content} {s t : State}

theorem started (h : ContentRuns content s t) :
    t.sequencer =
      { schedule := t.sequencer.schedule, started := 0, made := 0, skipAt := none, burstSkipped := false, xtrig := false
        headWord := t.sequencer.headWord } := by
  rw [h.sequencer]

theorem idleGenerators (h : ContentRuns content s t) (hc : ∀ e, content ≠ .apply e) :
    t.generators = Vector.replicate 4 {} := by
  obtain ⟨frame, turn, e⟩ := h.generators
  rw [e, State.loadGenerators_of_not_apply hc]

theorem noStrobes (h : ContentRuns content s t) (hc : ∀ e, content ≠ .apply e) :
    (∀ c, t.generators.get c = {}) ∧ t.resolver.inUse = 0 := by
  rw [h.inUse, h.idleGenerators hc]
  exact ⟨get_idleGenerators, grantedLanes_idle⟩

theorem strobesDone_of_not_apply (h : ContentRuns content s t) (hc : ∀ e, content ≠ .apply e) :
    t.barrier.strobesDone = true := by
  rw [h.strobesDone, h.idleGenerators hc, allSettled_idle]

theorem minTimeDone_of_not_apply (h : ContentRuns content s t) (hc : ∀ e, content ≠ .apply e) :
    t.barrier.minTimeDone = true := by
  rw [h.minTimeDone, State.minFrameOf_of_not_apply hc]
  rfl

/-- A SETTLE sends the head word and waits for HRDY (R149). -/
theorem settle {e : Fin 64} {p : Plan} (h : ContentRuns (.settle e) s t) (hp : s.plan? e = some p) :
    t.sequencer.schedule = [] ∧
    t.sequencer.headWord = some { mode := p.headMode, code := p.headCode, start := s.now } ∧
    t.cursor.headSent = some p.headMode ∧ t.barrier.minTimeDone = true ∧ t.barrier.exposuresDone = false ∧
    t.barrier.strobesDone = true ∧ t.cursor.entry = s.cursor.entry ∧
    t.cursor.repeatsLeft = s.cursor.repeatsLeft := by
  rw [h.sequencer, h.exposuresDone]
  exact ⟨rfl, State.headWordFor_of_plan (content := .settle e) hp, h.headSent p hp, h.minTimeDone_of_not_apply nofun, rfl,
    h.strobesDone_of_not_apply nofun, h.position nofun⟩

/-- A frame without head word and exposures (R6, R7). -/
theorem rest (h : ContentRuns content s t) (hc : content = .idle ∨ content = .parked ∨ content = .abstain) :
    t.sequencer.schedule = [] ∧ t.sequencer.headWord = none ∧ t.barrier.minTimeDone = true ∧
    t.barrier.exposuresDone = true ∧ t.barrier.strobesDone = true ∧ t.cursor.entry = s.cursor.entry ∧
    t.cursor.repeatsLeft = s.cursor.repeatsLeft := by
  have ne := Content.ne_apply_of_rest hc
  refine ⟨?_, ?_, h.minTimeDone_of_not_apply ne, ?_, h.strobesDone_of_not_apply ne, h.position ne⟩
  · rw [h.sequencer]; rcases hc with rfl | rfl | rfl <;> rfl
  · rw [h.sequencer]; rcases hc with rfl | rfl | rfl <;> rfl
  · rw [h.exposuresDone]; rcases hc with rfl | rfl | rfl <;> rfl

/-- An APPLY runs its plan's exposures, head word, minimum frame time and strobe records (R6, R144, R145, R150). -/
theorem apply {e : Fin 64} {p : Plan} (h : ContentRuns (.apply e) s t) (hp : s.plan? e = some p) :
    (p.dark = true → t.sequencer.schedule = []) ∧
    (p.dark = false →
      t.sequencer.schedule.length = p.burstCount ∧
      ∀ k, k < p.burstCount →
        t.sequencer.schedule[k]? =
          some (s.now + p.exposureOffset + k * (p.exposureTime + p.burstGap),
            s.now + p.exposureOffset + k * (p.exposureTime + p.burstGap) + p.exposureTime)) ∧
    t.sequencer.made = 0 ∧
    t.sequencer.headWord = some { mode := p.headMode, code := p.headCode, start := s.now } ∧
    t.cursor.headSent = some p.headMode ∧ t.barrier.minTimeDone = (p.minFrameTime == 0) ∧
    t.barrier.minTimeDue = (if p.minFrameTime = 0 then none else some (s.now + p.minFrameTime)) ∧
    t.barrier.exposuresDone = p.dark ∧
    ∀ c, p.onChannel c = none → t.generators.get c = {} := by
  have minFrame : s.minFrameOf (.apply e) = p.minFrameTime := by simp [State.minFrameOf, State.appliedPlan, hp]
  have free : s.exposuresFree (.apply e) = p.dark := by simp [State.exposuresFree, hp]
  have schedule : s.scheduleFor (.apply e) = if p.dark then [] else burstSchedule s.now p := by
    simp [State.scheduleFor, hp]
  refine ⟨fun hd => ?_, fun hd => ?_, ?_, ?_, h.headSent p hp, ?_, ?_, ?_, fun c hc => ?_⟩
  · rw [h.sequencer, schedule, if_pos hd]
  · rw [h.sequencer, schedule, if_neg (by simp [hd])]
    refine ⟨by simp [burstSchedule], fun k hk => ?_⟩
    simp [burstSchedule, hk]
  · rw [h.sequencer]
  · rw [h.sequencer]
    exact State.headWordFor_of_plan (content := .apply e) hp
  · rw [h.minTimeDone, minFrame]
  · rw [h.minTimeDue, minFrame]
  · rw [h.exposuresDone, free]
  · obtain ⟨frame, turn, e'⟩ := h.generators
    have plan : s.appliedPlan (.apply e) = some p := hp
    simp [e', State.loadGenerators, plan, hc]

/-- What a mark has told the barrier unit is not asked by a content. -/
theorem of_rising (h : ContentRuns content s.rising t) : ContentRuns content s t := { h with }

end ContentRuns

/-- A frame begun at a participant runs the content that its transition made current. -/
theorem State.begun_contentRuns {content : Content} {s u : State} (m : Membership) (e : EpochUnit)
    (hcursor : u.cursor = s.cursor) (htable : u.table = s.table) :
    ContentRuns content s (s.begun .next m (u.makeCurrent content).cursor e) := by
  have current := State.makeCurrent_current content u
  have same : s.begun .next m (u.makeCurrent content).cursor e =
      s.begun .next m { (u.makeCurrent content).cursor with current := some content } e := by rw [← current]
  rw [same]
  refine ⟨rfl, rfl, rfl, rfl, rfl, ⟨_, _, rfl⟩, rfl, fun p hp => ?_, fun hc => ?_⟩
  · refine State.makeCurrent_headSent (content := content) (s := u) ?_
    have plan (entry : Fin 64) : u.plan? entry = s.plan? entry := by rw [State.plan?, State.plan?, htable]
    rw [← hp]
    cases content <;> first | exact plan _ | rfl
  · change (u.makeCurrent content).cursor.entry = _ ∧ (u.makeCurrent content).cursor.repeatsLeft = _
    rw [State.makeCurrent_of_not_apply hc, ← hcursor]
    exact ⟨rfl, rfl⟩

/-- The lookahead of a frame begun, in any state but LEAVING, is the cursor's own choice (R124). -/
theorem State.begun_lookahead_running {s : State} {start : FrameStart} {m : Membership} {c : Cursor} {e : EpochUnit}
    (h : m.state ≠ .leaving) :
    (s.begun start m c e).cursor.lookahead =
      some ((s.begun start m c e).chooseRunning (s.frameAtMark start + 1)) :=
  congrArg some (State.choose_not_leaving (s := s.transit m c e) h _)

/-- A LEAVING station's is the leave (R124). -/
theorem State.begun_lookahead_leaving {s : State} {start : FrameStart} {m : Membership} {c : Cursor} {e : EpochUnit}
    (h : m.state = .leaving) : (s.begun start m c e).cursor.lookahead = some .leave :=
  congrArg some (State.choose_leaving (s := s.transit m c e) h _)

/-! ### A mark without an advance (R83, R85, R125) -/

theorem TurnState.not_due_of {x : TurnState} (h : ∀ late, x ≠ .advanceDue late) : x.isDue = false := by
  cases x with
  | advanceDue late => exact absurd rfl (h late)
  | _ => rfl

theorem State.heldContent_of {s : State} {content : Content} (h : s.cursor.lookahead = some content)
    (hc : content ≠ .leave) : s.heldContent = content := by
  unfold State.heldContent
  rw [h]
  cases content <;> first | rfl | exact absurd rfl hc

/-- Without an advance the content held is run, and a pending frame-end leave or the marker makes the station LEAVING. -/
theorem State.startNext_of_not_due {s : State} {content : Content} (hturn : s.epochs.turn.isDue = false)
    (hc : s.heldContent = content) (frame : FrameNo) :
    s.startNext frame =
      if s.membership.pendingLeave = some .frameEnd ∨ s.membership.leavingFrame = true then
        s.becomeLeaving.makeCurrent content
      else s.stayOn.makeCurrent content := by
  unfold State.startNext
  simp only [hturn, Bool.false_eq_true, if_false, hc]

theorem State.advanceRecords_of_not_due {s : State} (h : s.epochs.turn.isDue = false) (frame : FrameNo) :
    s.advanceRecords frame = [] := by
  unfold State.advanceRecords
  cases ht : s.epochs.turn with
  | advanceDue late => rw [ht] at h; cases h
  | _ => rfl

theorem State.rising_frameRecord (s : State) (truncated : Bool) :
    s.rising.frameRecord truncated = s.frameRecord truncated :=
  State.frameRecord_congr truncated rfl rfl rfl rfl rfl rfl rfl rfl rfl rfl rfl

/-- The frame that a station that stays on begins. -/
def State.nextFrame (content : Content) (s : State) : State :=
  s.begun .next
    { s.stayOn.membership with pendingLeave := (s.stayOn.makeCurrent content).membership.pendingLeave }
    (s.stayOn.makeCurrent content).cursor s.epochs

theorem State.beginFrame_staysOn {s : State} {content : Content} (hturn : s.epochs.turn.isDue = false)
    (hc : s.heldContent = content)
    (hno : ¬ (s.membership.pendingLeave = some .frameEnd ∨ s.membership.leavingFrame = true)) :
    s.beginFrame .next =
      (s.nextFrame content).logChains (s.markRecords .next (s.barrier.frameNo + 1) (s.nextFrame content)) := by
  have start : s.startFrame .next (s.barrier.frameNo + 1) =
      s.transit { s.stayOn.membership with pendingLeave := (s.stayOn.makeCurrent content).membership.pendingLeave }
        (s.stayOn.makeCurrent content).cursor s.epochs := by
    change s.startNext (s.barrier.frameNo + 1) = _
    rw [State.startNext_of_not_due hturn hc, if_neg hno, State.makeCurrent_transit]
    rfl
  exact State.beginFrame_eq start

theorem StationState.stays_active {x : StationState} (h : x = .flushing ∨ x = .active) :
    (if x = .flushing then .active else x) = StationState.active := by
  rcases h with rfl | rfl <;> rfl

/-- Settles O31. -/
theorem participantMarkBeginsTheNextFrame : Obligations.ParticipantMarkBeginsTheNextFrame := by
  intro content s ht hr hw hb hst hturn hpend hmark hlook hne left own
  have participant : s.rising.membership.state.participant = true :=
    (StationState.participant_iff _).2 (by tauto)
  have due : s.epochs.turn.isDue = false := TurnState.not_due_of hturn
  have run := exec_frameMark_rise ht hr hw
  have stays : ¬ (s.rising.membership.pendingLeave = some .frameEnd ∨ s.rising.membership.leavingFrame = true) := by
    rintro (h | h)
    · exact hpend h
    · exact nomatch hmark.symm.trans h
  rw [State.actOnMark_next (s := s.rising) hb participant,
    State.beginFrame_staysOn (s := s.rising) due (State.heldContent_of hlook hne) stays] at run
  have active : (s.rising.nextFrame content).membership.state = .active := StationState.stays_active hst
  have runs : ContentRuns content s (s.rising.nextFrame content) :=
    (State.begun_contentRuns (s := s.rising) (u := s.rising.stayOn) _ _ rfl rfl).of_rising
  have chosen : (s.rising.nextFrame content).cursor.lookahead =
      some ((s.rising.nextFrame content).chooseRunning (s.barrier.frameNo + 1 + 1)) :=
    State.begun_lookahead_running (s := s.rising) fun h => nomatch active.symm.trans h
  refine ⟨_, run, active, rfl, rfl, rfl, rfl, rfl, rfl, rfl, rfl, State.makeCurrent_current content s.rising.stayOn, due, rfl,
    rfl, rfl, rfl, rfl, rfl, ?log, fun hp => ?parked, fun e p hp he hplan => ?entry, runs.started, runs.noStrobes,
    fun e p hc hp => ?settle, fun e p hc hp => ?apply, runs.rest, rfl, rfl, rfl, rfl, rfl⟩
  case log =>
    have hown : s.rising.endedFrameRecords .next ++
        s.rising.joinedRecords (s.barrier.frameNo + 1) (s.rising.nextFrame content) ++
        s.rising.advanceRecords (s.barrier.frameNo + 1) = own := by
      rw [State.advanceRecords_of_not_due (s := s.rising) due, List.append_nil, State.endedFrameRecords,
        State.rising_frameRecord, State.joinedRecords, active]
      simp only [and_true]
      rfl
    obtain ⟨rs, perm, keepsOwn, keepsLeft, log⟩ := State.beginFrame_log hown rfl
    have hleft : s.rising.leftRecords = left := s.rising.leftRecords_eq
    rw [hleft] at perm keepsLeft
    rw [FrameStart.foundedRecords, List.append_nil] at perm
    exact ⟨rs, perm, keepsOwn, keepsLeft, log⟩
  case parked =>
    exact chosen.trans (congrArg some (State.chooseRunning_parked hp _))
  case entry =>
    refine chosen.trans (congrArg some ((State.chooseRunning_entry hp he hplan _).trans ?_))
    rw [BitVec.add_assoc]
    rfl
  case settle =>
    subst hc
    exact runs.settle hp
  case apply =>
    subst hc
    exact runs.apply hp

end Sys2Proof.Machine
end

section
/-! SUPPORT. A repetition consumed, and the mark of the leaving frame (O35). -/

namespace Sys2Proof.Machine

/-! ### The cursor moves on (R102, R126) -/

theorem State.reachEntry_cursor (s : State) : s.reachEntry.cursor = s.cursor := by
  unfold State.reachEntry
  split
  · split <;> rfl
  all_goals rfl

/-- The link goes no further along the chain: the entry ends its segment. -/
def Link.ends : Link → Bool
  | .next _ => false
  | .repeats _ | .park | .depart => true

theorem Link.ends_iff (link : Link) : link.ends = true ↔ ∀ n, link ≠ .next n := by cases link <;> simp [Link.ends]

theorem State.moveOn_next_cursor (n : Fin 64) (s : State) :
    (s.moveOn (.next n)).cursor = { s.cursor with entry := some n, repeatsLeft := s.repeatCountOf n } :=
  State.reachEntry_cursor _

theorem State.moveOn_stop {link : Link} (h : link = .park ∨ link = .depart) (s : State) :
    s.moveOn link = { s with cursor := { s.cursor with parked := true } } := by
  rcases h with rfl | rfl <;> rfl

theorem State.moveOn_forever_cursor {s : State} {k : Nat} {start : Fin 64} (hl : s.cursor.loopsLeft = .forever)
    (hs : s.cursor.segment = some start) :
    (s.moveOn (.repeats k)).cursor =
      { s.cursor with entry := some start, repeatsLeft := s.repeatCountOf start } := by
  unfold State.moveOn
  simp only [hl, hs]
  rw [State.reachEntry_cursor]

theorem State.moveOn_passes_cursor {s : State} {k n : Nat} {start : Fin 64} (hl : s.cursor.loopsLeft = .passes (n + 2))
    (hs : s.cursor.segment = some start) :
    (s.moveOn (.repeats k)).cursor =
      { s.cursor with entry := some start, repeatsLeft := s.repeatCountOf start, loopsLeft := .passes (n + 1) } := by
  unfold State.moveOn
  simp only [hl, hs]
  rw [State.reachEntry_cursor]

theorem State.moveOn_last_pass {s : State} {k : Nat} (hl : s.cursor.loopsLeft = .passes 1) :
    s.moveOn (.repeats k) = { s with cursor := { s.cursor with parked := true } } := by
  unfold State.moveOn
  simp only [hl]

/-- Moving on does not touch whether the frame runs the last repetition. -/
theorem State.moveOn_lastRepetition (link : Link) (s : State) :
    (s.moveOn link).cursor.lastRepetition = s.cursor.lastRepetition := by
  cases link with
  | repeats n =>
    unfold State.moveOn
    simp only
    split <;> first | rw [State.reachEntry_cursor] | rfl
  | next n => rw [State.moveOn_next_cursor]
  | _ => rfl

/-- The station whose cursor has consumed one repetition of an entry with this link, before it moves (R126). -/
def State.consumed (link : Link) (s : State) : State :=
  { s with
    cursor :=
      { s.cursor with
        repeatsLeft := s.cursor.repeatsLeft - 1
        lastRepetition := s.cursor.repeatsLeft - 1 == 0 && link.ends } }

theorem State.consume_link {s : State} {link : Link} (h : (s.cursor.entry.bind s.plan?).map Plan.link = some link) :
    s.consume = if s.cursor.repeatsLeft - 1 = 0 then (s.consumed link).moveOn link else s.consumed link := by
  unfold State.consume
  simp only [h]
  unfold State.consumed Link.ends
  cases link <;> rfl

theorem State.consume_none {s : State} (h : (s.cursor.entry.bind s.plan?).map Plan.link = none) : s.consume = s := by
  unfold State.consume
  simp only [h]

theorem State.consume_eq {s : State} {e : Fin 64} {p : Plan} (he : s.cursor.entry = some e) (hp : s.plan? e = some p) :
    s.consume = if s.cursor.repeatsLeft - 1 = 0 then (s.consumed p.link).moveOn p.link else s.consumed p.link :=
  State.consume_link (by rw [he, Option.bind_some, hp]; rfl)

/-- What a repetition consumed makes of the cursor (R86, R102, R126): the clause of a statement about the cursor `c` that the
cursor of `s` becomes at entry `e` of plan `p`. -/
structure Consumes (e : Fin 64) (p : Plan) (s : State) (c : Cursor) : Prop where
  last : c.lastRepetition = true ↔ s.cursor.repeatsLeft ≤ 1 ∧ ∀ n, p.link ≠ .next n
  stays : 2 ≤ s.cursor.repeatsLeft →
    c.entry = some e ∧ c.repeatsLeft = s.cursor.repeatsLeft - 1 ∧ c.loopsLeft = s.cursor.loopsLeft ∧
      c.parked = s.cursor.parked
  next : s.cursor.repeatsLeft ≤ 1 → ∀ n q, p.link = .next n → s.plan? n = some q →
    c.entry = some n ∧ c.repeatsLeft = q.repeatCount ∧ c.loopsLeft = s.cursor.loopsLeft ∧ c.parked = s.cursor.parked
  stop : s.cursor.repeatsLeft ≤ 1 → (p.link = .park ∨ p.link = .depart) →
    c.entry = some e ∧ c.repeatsLeft = 0 ∧ c.parked = true ∧ c.loopsLeft = s.cursor.loopsLeft
  forever : s.cursor.repeatsLeft ≤ 1 → ∀ k start q, p.link = .repeats k → s.cursor.segment = some start →
    s.plan? start = some q → s.cursor.loopsLeft = .forever →
    c.entry = some start ∧ c.repeatsLeft = q.repeatCount ∧ c.loopsLeft = .forever ∧ c.parked = s.cursor.parked
  passes : s.cursor.repeatsLeft ≤ 1 → ∀ k start q, p.link = .repeats k → s.cursor.segment = some start →
    s.plan? start = some q → ∀ n, s.cursor.loopsLeft = .passes (n + 2) →
    c.entry = some start ∧ c.repeatsLeft = q.repeatCount ∧ c.loopsLeft = .passes (n + 1) ∧ c.parked = s.cursor.parked
  lastPass : s.cursor.repeatsLeft ≤ 1 → ∀ k, p.link = .repeats k → s.cursor.loopsLeft = .passes 1 →
    c.entry = some e ∧ c.repeatsLeft = 0 ∧ c.parked = true

theorem State.repeatCountOf_eq {s : State} {e : Fin 64} {p : Plan} (h : s.plan? e = some p) :
    s.repeatCountOf e = p.repeatCount := by simp [State.repeatCountOf, h]

theorem State.consume_consumes {s : State} {e : Fin 64} {p : Plan} (he : s.cursor.entry = some e)
    (hp : s.plan? e = some p) : Consumes e p s s.consume.cursor := by
  have eq := State.consume_eq he hp
  have moved {link : Link} (hl : s.cursor.repeatsLeft ≤ 1) (hlink : p.link = link) :
      s.consume = (s.consumed link).moveOn link := by
    rw [eq, if_pos (by omega), hlink]
  have count {link : Link} {n : Fin 64} {q : Plan} (hq : s.plan? n = some q) :
      (s.consumed link).repeatCountOf n = q.repeatCount := State.repeatCountOf_eq (s := s.consumed link) hq
  have none (hl : s.cursor.repeatsLeft ≤ 1) : s.cursor.repeatsLeft - 1 = 0 := by omega
  refine ⟨?_, fun hl => ?_, fun hl n q hlink hq => ?_, fun hl hlink => ?_, fun hl k start q hlink hs hq hf => ?_,
    fun hl k start q hlink hs hq n hf => ?_, fun hl k hlink hf => ?_⟩
  · have last : s.consume.cursor.lastRepetition = (s.cursor.repeatsLeft - 1 == 0 && p.link.ends) := by
      rw [eq]
      split
      · exact State.moveOn_lastRepetition _ _
      · rfl
    rw [last, Bool.and_eq_true, beq_iff_eq, Link.ends_iff]
    exact and_congr_left fun _ => by omega
  · rw [eq, if_neg (by omega)]
    exact ⟨he, rfl, rfl, rfl⟩
  · rw [moved hl hlink, State.moveOn_next_cursor, count hq]
    exact ⟨rfl, rfl, rfl, rfl⟩
  · rw [moved hl rfl, State.moveOn_stop hlink]
    exact ⟨he, none hl, rfl, rfl⟩
  · rw [moved hl hlink, State.moveOn_forever_cursor (s := s.consumed _) hf hs, count hq]
    exact ⟨rfl, rfl, hf, rfl⟩
  · rw [moved hl hlink, State.moveOn_passes_cursor (s := s.consumed _) hf hs, count hq]
    exact ⟨rfl, rfl, rfl, rfl⟩
  · rw [moved hl hlink, State.moveOn_last_pass (s := s.consumed _) hf]
    exact ⟨he, none hl, rfl⟩

/-- Making an APPLY of the current entry current consumes its repetition (R125, R126). -/
theorem State.makeCurrent_consumes {s : State} {e : Fin 64} {p : Plan} (he : s.cursor.entry = some e)
    (hp : s.plan? e = some p) : Consumes e p s (s.makeCurrent (.apply e)).cursor := by
  have current : s.makeCurrent (.apply e) =
      ({ s with
        cursor := { s.cursor with current := some (.apply e), headSent := some p.headMode, lastRepetition := false } }
        : State).consume := by
    simp only [State.makeCurrent, State.headPlan, hp]
  rw [current]
  exact { State.consume_consumes (s := { s with
    cursor := { s.cursor with current := some (.apply e), headSent := some p.headMode, lastRepetition := false } })
    he hp with }

/-! ### The mark of the leaving frame (R85 to R87) -/

/-- The frame that a station that becomes LEAVING begins. -/
def State.leavingFrame (content : Content) (s : State) : State :=
  s.begun .next s.becomeLeaving.membership (s.becomeLeaving.makeCurrent content).cursor s.becomeLeaving.epochs

theorem State.beginFrame_leaves {s : State} {content : Content} (hturn : s.epochs.turn.isDue = false)
    (hc : s.heldContent = content)
    (hleaves : s.membership.pendingLeave = some .frameEnd ∨ s.membership.leavingFrame = true) :
    s.beginFrame .next =
      (s.leavingFrame content).logChains (s.markRecords .next (s.barrier.frameNo + 1) (s.leavingFrame content)) := by
  have start : s.startFrame .next (s.barrier.frameNo + 1) =
      s.transit s.becomeLeaving.membership (s.becomeLeaving.makeCurrent content).cursor s.becomeLeaving.epochs := by
    change s.startNext (s.barrier.frameNo + 1) = _
    rw [State.startNext_of_not_due hturn hc, if_pos hleaves, State.makeCurrent_transit,
      State.makeCurrent_membership_of_leaving content s.becomeLeaving_state]
    rfl
  exact State.beginFrame_eq start

theorem TurnState.idle_of_not_due {x : TurnState} (h : x.isDue = false) : (if x = .catchingUp then .idle else x) = .idle := by
  cases x with
  | advanceDue late => cases h
  | _ => rfl

/-- Settles O35. -/
theorem theMarkOfTheLeavingFrameMakesTheStationLeaving :
    Obligations.TheMarkOfTheLeavingFrameMakesTheStationLeaving := by
  intro content s ht hr hw hb hst hleaves hturn hlook hne left
  have participant : s.rising.membership.state.participant = true :=
    (StationState.participant_iff _).2 (by tauto)
  have due : s.epochs.turn.isDue = false := TurnState.not_due_of hturn
  have run := exec_frameMark_rise ht hr hw
  rw [State.actOnMark_next (s := s.rising) hb participant,
    State.beginFrame_leaves (s := s.rising) due (State.heldContent_of hlook hne) hleaves] at run
  have runs : ContentRuns content s (s.rising.leavingFrame content) :=
    (State.begun_contentRuns (s := s.rising) (u := s.rising.becomeLeaving) _ _ rfl rfl).of_rising
  refine ⟨_, run, rfl, rfl, rfl, rfl, TurnState.idle_of_not_due due,
    State.makeCurrent_current content s.rising.becomeLeaving, State.begun_lookahead_leaving (s := s.rising) rfl, rfl, rfl, rfl,
    rfl, rfl, rfl, rfl, rfl, due, rfl, rfl, rfl, rfl, State.makeCurrent_segment content s.rising.becomeLeaving, ?log,
    runs.started, runs.noStrobes, rfl, fun e p hc hp => ?settle, fun e p hc hp => ?apply, runs.rest,
    fun e p hc he hp => ?consumes, rfl, rfl, rfl⟩
  case log =>
    have hown : s.rising.endedFrameRecords .next ++
        s.rising.joinedRecords (s.barrier.frameNo + 1) (s.rising.leavingFrame content) ++
        s.rising.advanceRecords (s.barrier.frameNo + 1) = s.frameRecord false := by
      rw [State.advanceRecords_of_not_due (s := s.rising) due, List.append_nil, State.endedFrameRecords,
        State.rising_frameRecord, State.joinedRecords, if_neg (fun h => nomatch h.2), List.append_nil]
    obtain ⟨rs, perm, -, keepsLeft, log⟩ := State.beginFrame_log hown rfl
    have hleft : s.rising.leftRecords = left := s.rising.leftRecords_eq
    rw [hleft] at perm keepsLeft
    rw [FrameStart.foundedRecords, List.append_nil] at perm
    exact ⟨rs, perm, keepsLeft, log⟩
  case settle =>
    subst hc
    exact runs.settle hp
  case apply =>
    subst hc
    exact runs.apply hp
  case consumes =>
    subst hc
    obtain ⟨last, stays, next, stop, forever, passes, lastPass⟩ :=
      State.makeCurrent_consumes (s := s.rising.becomeLeaving) (e := e) he hp
    exact ⟨last, stays, fun hl => ⟨next hl, stop hl, fun k start q hlink hs hq =>
      ⟨forever hl k start q hlink hs hq, passes hl k start q hlink hs hq, lastPass hl k hlink⟩⟩⟩

end Sys2Proof.Machine
end

section
/-! SUPPORT. The mark with an advance due (O34): the epoch unit's transition, the strobe records of a turn frame, and the
comparison with a mark that finds the advance settled. -/

namespace Sys2Proof.Machine

/-! ### The generators that a content loads (R63, R150 to R152) -/

theorem Generator.load_denied (t : Nat) (dark : Bool) (r : StrobeRecord) (reason : DenyReason) :
    Generator.load t dark r (.denied reason) =
      { record := some r, decision := some (.denied reason), phase := .done, pulsesLeft := 0
        outcome := some (.denied reason) } := rfl

theorem Generator.takeReference_record (t : Nat) (g : Generator) :
    (g.takeReference t).record = g.record ∧ (g.takeReference t).decision = g.decision := by
  unfold Generator.takeReference
  cases hr : g.record with
  | none => exact ⟨hr, rfl⟩
  | some r =>
    dsimp only
    split_ifs
    · exact ⟨hr, rfl⟩
    · exact ⟨hr, rfl⟩
    · exact ⟨rfl, rfl⟩

/-- A loaded generator holds its record and its decision. -/
theorem Generator.load_record (t : Nat) (dark : Bool) (r : StrobeRecord) (d : Decision) :
    (Generator.load t dark r d).record = some r ∧ (Generator.load t dark r d).decision = some d := by
  unfold Generator.load
  cases d with
  | denied reason => exact ⟨rfl, rfl⟩
  | _ =>
    cases r.reference with
    | mark => exact Generator.takeReference_record t _
    | _ => cases dark <;> exact ⟨rfl, rfl⟩

/-- A record that runs on its own lane at the mark (R151, R152). -/
theorem Generator.load_unarbitrated (t : Nat) (dark : Bool) (r : StrobeRecord) :
    let g := Generator.load t dark r .unarbitrated
    (r.reference = .mark → r.delay = 0 →
      g.phase = .on ∧ g.pulsesLeft = r.pulses - 1 ∧ g.phaseEnd = some (t + r.onTime) ∧ g.outcome = none) ∧
    (r.reference = .mark → r.delay ≠ 0 →
      g.phase = .delay ∧ g.pulsesLeft = r.pulses ∧ g.phaseEnd = some (t + r.delay) ∧ g.outcome = none) ∧
    (r.reference ≠ .mark → dark = false →
      g.phase = .wait ∧ g.pulsesLeft = r.pulses ∧ g.phaseEnd = none ∧ g.outcome = none) ∧
    (r.reference ≠ .mark → dark = true → g.phase = .done ∧ g.outcome = some .notRun) := by
  unfold Generator.load
  refine ⟨fun hr hd => ?_, fun hr hd => ?_, fun hr hd => ?_, fun hr hd => ?_⟩
  · simp [hr, Generator.takeReference, hd, Generator.enterOn]
  · simp [hr, Generator.takeReference, hd]
  · cases href : r.reference with
    | mark => exact absurd href hr
    | _ => simp [hd]
  · cases href : r.reference with
    | mark => exact absurd href hr
    | _ => simp [hd, Generator.endUnrun]

/-- The record that a channel runs in a content. -/
def State.channelRecord (s : State) (content : Content) (c : Fin 4) : Option StrobeRecord :=
  (s.appliedPlan content).bind fun p => p.onChannel c

theorem State.loadGenerators_idle {s : State} {content : Content} {c : Fin 4} (h : s.channelRecord content c = none)
    (frame : FrameNo) (turn : Bool) : (s.loadGenerators frame turn content).get c = {} := by
  unfold State.channelRecord at h
  unfold State.loadGenerators
  cases hp : s.appliedPlan content with
  | none => exact get_idleGenerators c
  | some p =>
    rw [hp] at h
    have h : p.onChannel c = none := h
    simp [h]

theorem State.loadGenerators_loads {s : State} {content : Content} {c : Fin 4} {r : StrobeRecord} {p : Plan}
    (hp : s.appliedPlan content = some p) (h : p.onChannel c = some r) (frame : FrameNo) (turn : Bool) :
    (s.loadGenerators frame turn content).get c = Generator.load s.now p.dark r (s.decideRecord frame turn r) := by
  simp [State.loadGenerators, hp, h]

/-- The records loaded do not depend on the decisions. -/
theorem State.loadGenerators_record (s : State) (frame : FrameNo) (turn : Bool) (content : Content) (c : Fin 4) :
    ((s.loadGenerators frame turn content).get c).record = s.channelRecord content c := by
  cases hp : s.appliedPlan content with
  | none =>
    have idle : s.channelRecord content c = none := by rw [State.channelRecord, hp]; rfl
    rw [State.loadGenerators_idle idle, idle]
  | some p =>
    have record : s.channelRecord content c = p.onChannel c := by rw [State.channelRecord, hp]; rfl
    cases h : p.onChannel c with
    | none => rw [State.loadGenerators_idle (record.trans h), record, h]
    | some r => rw [State.loadGenerators_loads hp h, record, h, (Generator.load_record _ _ _ _).1]

/-- A turn frame denies every record that names a lane (R63). -/
theorem State.decideRecord_turn {s : State} {r : StrobeRecord} {lane : Fin 8} (h : r.lane = some lane) (frame : FrameNo) :
    s.decideRecord frame true r = .denied .turn := by
  simp [State.decideRecord, h]

theorem State.decideRecord_private {s : State} {r : StrobeRecord} (h : r.lane = none) (frame : FrameNo) (turn : Bool) :
    s.decideRecord frame turn r = .unarbitrated := by
  simp [State.decideRecord, h]

/-- What a turn frame makes of a record that names a lane. -/
theorem State.turn_denies {s : State} {content : Content} {c : Fin 4} {r : StrobeRecord} {lane : Fin 8}
    (h : s.channelRecord content c = some r) (hl : r.lane = some lane) (frame : FrameNo) :
    (s.loadGenerators frame true content).get c =
      { record := some r, decision := some (.denied .turn), phase := .done, pulsesLeft := 0
        outcome := some (.denied .turn) } := by
  cases hp : s.appliedPlan content with
  | none => rw [State.channelRecord, hp] at h; cases h
  | some p =>
    rw [State.channelRecord, hp] at h
    rw [State.loadGenerators_loads hp h, State.decideRecord_turn hl, Generator.load_denied]

theorem foldl_of_fixed {α β : Type} {f : β → α → β} {b : β} {l : List α} (h : ∀ x ∈ l, f b x = b) :
    l.foldl f b = b := by
  induction l with
  | nil => rfl
  | cons x rest ih =>
    rw [List.foldl_cons, h x List.mem_cons_self]
    exact ih fun y hy => h y (List.mem_cons_of_mem _ hy)

/-- No lane is in use where no record that names a lane is granted (R62). -/
theorem grantedLanes_eq_zero {gens : Vector Generator 4}
    (h : ∀ c r lane, (gens.get c).record = some r → r.lane = some lane → (gens.get c).decision ≠ some .granted) :
    grantedLanes gens = 0 := by
  refine foldl_of_fixed fun g hg => ?_
  obtain ⟨c, rfl⟩ : ∃ c, gens.get c = g := by
    obtain ⟨i, hi, e⟩ := Vector.mem_iff_getElem.1 (Vector.mem_toList_iff.1 hg)
    exact ⟨⟨i, hi⟩, e⟩
  cases hr : (gens.get c).record with
  | none => rfl
  | some r =>
    rw [Option.bind_some]
    cases hl : r.lane with
    | none => rfl
    | some lane =>
      cases hd : (gens.get c).decision with
      | none => rfl
      | some d =>
        cases d with
        | granted => exact absurd hd (h c r lane hr hl)
        | _ => rfl

/-- No lane is in use in a turn frame (R62, R63). -/
theorem State.turn_inUse (s : State) (frame : FrameNo) (content : Content) :
    grantedLanes (s.loadGenerators frame true content) = 0 := by
  refine grantedLanes_eq_zero fun c r lane hr hl => ?_
  rw [State.turn_denies ((s.loadGenerators_record frame true content c).symm.trans hr) hl]
  nofun

/-! ### The advance (R136) -/

/-- Reaching an entry sets the pending leave mode where the entry departs, with or without a plan there (R86, R126). -/
theorem State.reachEntry_pending {s : State} (hl : s.membership.state ≠ .leaving) :
    s.reachEntry =
      { s with
        membership :=
          { s.membership with
            pendingLeave :=
              if s.membership.pendingLeave = none ∧ (s.cursor.entry.bind s.plan?).map Plan.link = some .depart then
                some .segmentEnd
              else s.membership.pendingLeave } } := by
  unfold State.reachEntry
  split
  · next h => cases hpend : s.membership.pendingLeave <;> simp [hl, h]; rw [← hpend]
  all_goals next h => simp [h]

/-- The segment that an advance makes current: the staged one under SWITCH. -/
def State.switchStart (mode : ReadyMode) (s : State) : Option (Fin 64) :=
  if mode = .switch then s.epochs.staged else none

/-- The cursor after an advance (R123, R136). -/
def State.turnedCursor (start : Option (Fin 64)) (s : State) : Cursor :=
  match start with
  | some e =>
    { s.cursor with
      segment := some e
      entry := some e
      repeatsLeft := ((s.plan? e).map Plan.repeatCount).getD 0
      loopsLeft := startLoops s.table e
      parked := false }
  | none => s.cursor

/-- The pending leave mode after an advance (R86). -/
def State.turnedLeave (start : Option (Fin 64)) (s : State) : Option PendingLeave :=
  if s.membership.pendingLeave = none ∧ (start.bind s.plan?).map Plan.link = some .depart then some .segmentEnd
  else s.membership.pendingLeave

/-- The epoch unit after an advance (R136). -/
def State.turnedEpochs (mode : ReadyMode) (s : State) : EpochUnit :=
  { s.epochs with
    epoch := s.epochs.epoch + 1
    staged := if mode = .switch then none else s.epochs.staged
    ready := none
    deferred := false
    turn := .idle }

/-- The station after an advance, in closed form. -/
def State.turned (mode : ReadyMode) (s : State) : State :=
  s.transit { s.membership with pendingLeave := s.turnedLeave (s.switchStart mode) }
    (s.turnedCursor (s.switchStart mode)) (s.turnedEpochs mode)

theorem State.switchTo_eq {s : State} {mode : ReadyMode} (h : s.epochs.ready = some mode) :
    s.epochs.switchTo = s.switchStart mode := by
  unfold EpochUnit.switchTo State.switchStart
  rw [h]
  cases mode <;> rfl

theorem State.advanceEpoch_eq {s : State} {mode : ReadyMode} (hr : s.epochs.ready = some mode)
    (hs : mode = .switch → s.epochs.staged.isSome = true) (hl : s.membership.state ≠ .leaving) :
    s.advanceEpoch = s.turned mode := by
  unfold State.advanceEpoch
  rw [State.switchTo_eq hr]
  unfold State.turned State.turnedEpochs
  cases mode with
  | keep =>
    have stays : s.turnedLeave (s.switchStart .keep) = s.membership.pendingLeave := if_neg nofun
    rw [stays]
    rfl
  | switch =>
    obtain ⟨e, he⟩ := Option.isSome_iff_exists.1 (hs rfl)
    have start : s.switchStart .switch = some e := he
    rw [start]
    exact State.reachEntry_pending (s := State.startSegment e _) hl

/-! ### The station's transition at a mark with an advance (R83, R85, R86, R136) -/

/-- A participant goes on, or becomes LEAVING. -/
def State.goesOn (leaves : Bool) (s : State) : State := if leaves then s.becomeLeaving else s.stayOn

theorem State.startNext_of_due {s : State} {mode : ReadyMode} {frame : FrameNo} (hturn : s.epochs.turn.isDue = true)
    (ha : s.advanceEpoch = s.turned mode) {content : Content} (hc : (s.turned mode).chooseRunning frame = content)
    {leaves : Bool}
    (hleaves : leaves = true ↔
      s.turnedLeave (s.switchStart mode) = some .frameEnd ∨ (s.turned mode).endsPass content = true) :
    s.startNext frame = ((s.turned mode).goesOn leaves).makeCurrent content := by
  unfold State.startNext State.goesOn
  simp only [hturn, if_true, ha, hc]
  rw [show (s.turned mode).membership.pendingLeave = s.turnedLeave (s.switchStart mode) from rfl]
  cases leaves with
  | true => rw [if_pos (hleaves.1 rfl), if_pos rfl]
  | false =>
    have no : ¬ (s.turnedLeave (s.switchStart mode) = some .frameEnd ∨ (s.turned mode).endsPass content = true) :=
      fun h => Bool.noConfusion (hleaves.2 h)
    rw [if_neg no]
    rfl

/-- The frame that begins when an advance takes effect. -/
def State.turnFrame (mode : ReadyMode) (leaves : Bool) (content : Content) (s : State) : State :=
  let u := ((s.turned mode).goesOn leaves).makeCurrent content
  s.begun .next u.membership u.cursor u.epochs

/-- The same mark where the advance was settled before it: turn state NONE and the new content held. -/
def State.settledTurn (mode : ReadyMode) (marked : Bool) (content : Content) (s : State) : State :=
  s.transit
    { s.membership with pendingLeave := s.turnedLeave (s.switchStart mode), leavingFrame := marked }
    { s.turnedCursor (s.switchStart mode) with lookahead := some content } (s.turnedEpochs mode)

/-! ### The lookahead that a mark replaces -/

/-- The station with another lookahead held. -/
def State.withLookahead (look : Option Content) (s : State) : State :=
  { s with cursor := { s.cursor with lookahead := look } }

theorem State.reachEntry_withLookahead (look : Option Content) (s : State) :
    (s.withLookahead look).reachEntry = s.reachEntry.withLookahead look := by
  by_cases h : s.membership.state = .leaving
  · rw [State.reachEntry_of_leaving h, State.reachEntry_of_leaving (s := s.withLookahead look) h]
  · rw [State.reachEntry_pending h, State.reachEntry_pending (s := s.withLookahead look) h]
    rfl

theorem State.moveOn_withLookahead (look : Option Content) (link : Link) (s : State) :
    (s.withLookahead look).moveOn link = (s.moveOn link).withLookahead look := by
  unfold State.moveOn
  cases link with
  | next e =>
    exact State.reachEntry_withLookahead look
      { s with cursor := { s.cursor with entry := some e, repeatsLeft := s.repeatCountOf e } }
  | repeats n =>
    dsimp only
    rw [show (s.withLookahead look).cursor.loopsLeft = s.cursor.loopsLeft from rfl,
      show (s.withLookahead look).cursor.segment = s.cursor.segment from rfl]
    split
    · next start _ _ =>
      exact State.reachEntry_withLookahead look
        { s with cursor := { s.cursor with entry := some start, repeatsLeft := s.repeatCountOf start } }
    · next n start _ _ =>
      exact State.reachEntry_withLookahead look
        { s with
          cursor :=
            { s.cursor with
              loopsLeft := .passes (n + 1), entry := some start, repeatsLeft := s.repeatCountOf start } }
    all_goals rfl
  | _ => rfl

theorem State.consume_withLookahead (look : Option Content) (s : State) :
    (s.withLookahead look).consume = s.consume.withLookahead look := by
  cases hlink : (s.cursor.entry.bind s.plan?).map Plan.link with
  | none => rw [State.consume_none hlink, State.consume_none (s := s.withLookahead look) hlink]
  | some link =>
    rw [State.consume_link hlink, State.consume_link (s := s.withLookahead look) hlink]
    by_cases h : s.cursor.repeatsLeft - 1 = 0
    · rw [if_pos h, if_pos (by exact h)]
      exact State.moveOn_withLookahead look link (s.consumed link)
    · rw [if_neg h, if_neg (by exact h)]
      rfl

theorem State.makeCurrent_withLookahead (look : Option Content) (content : Content) (s : State) :
    (s.withLookahead look).makeCurrent content = (s.makeCurrent content).withLookahead look := by
  have plan : (s.withLookahead look).headPlan content = s.headPlan content := by cases content <;> rfl
  unfold State.makeCurrent
  rw [plan]
  cases content with
  | apply e =>
    exact State.consume_withLookahead look
      { s with
        cursor :=
          { s.cursor with
            current := some (.apply e)
            headSent := match s.headPlan (.apply e) with
              | some p => some p.headMode
              | none => s.cursor.headSent
            lastRepetition := false } }
  | _ => rfl

end Sys2Proof.Machine
end

section
/-! SUPPORT. The mark with an advance due, beside the mark that finds it settled (O34). -/

namespace Sys2Proof.Machine

/-! ### Both marks -/

theorem State.transit_of_eq {s u : State} {m : Membership} {c : Cursor} {e : EpochUnit} (h : u = s.transit m c e) :
    u = s.transit u.membership u.cursor u.epochs := by
  subst h; rfl

theorem State.makeCurrent_of_transit {s u : State} {m : Membership} {c : Cursor} {e : EpochUnit} (h : u = s.transit m c e)
    (content : Content) :
    u.makeCurrent content =
      s.transit (u.makeCurrent content).membership (u.makeCurrent content).cursor (u.makeCurrent content).epochs := by
  subst h
  have frame : (s.transit m c e).makeCurrent content =
      s.transit { m with pendingLeave := ((s.transit m c e).makeCurrent content).membership.pendingLeave }
        ((s.transit m c e).makeCurrent content).cursor e := State.makeCurrent_transit content (s.transit m c e)
  exact State.transit_of_eq frame

theorem State.goesOn_transit (mode : ReadyMode) (leaves : Bool) (s : State) :
    (s.turned mode).goesOn leaves =
      s.transit ((s.turned mode).goesOn leaves).membership ((s.turned mode).goesOn leaves).cursor
        ((s.turned mode).goesOn leaves).epochs := by
  cases leaves <;> rfl

/-- The station's transition moves its own units alone. -/
theorem State.turned_transit (mode : ReadyMode) (leaves : Bool) (content : Content) (s : State) :
    ((s.turned mode).goesOn leaves).makeCurrent content =
      s.transit (((s.turned mode).goesOn leaves).makeCurrent content).membership
        (((s.turned mode).goesOn leaves).makeCurrent content).cursor
        (((s.turned mode).goesOn leaves).makeCurrent content).epochs :=
  State.makeCurrent_of_transit (s.goesOn_transit mode leaves) content

theorem State.beginFrame_turn {s : State} {mode : ReadyMode} (hturn : s.epochs.turn.isDue = true)
    (ha : s.advanceEpoch = s.turned mode) {content : Content}
    (hc : (s.turned mode).chooseRunning (s.barrier.frameNo + 1) = content) {leaves : Bool}
    (hleaves : leaves = true ↔
      s.turnedLeave (s.switchStart mode) = some .frameEnd ∨ (s.turned mode).endsPass content = true) :
    s.beginFrame .next =
      (s.turnFrame mode leaves content).logChains
        (s.markRecords .next (s.barrier.frameNo + 1) (s.turnFrame mode leaves content)) :=
  State.beginFrame_eq ((State.startNext_of_due hturn ha hc hleaves).trans (State.turned_transit mode leaves content s))

/-- The frame that begins where the advance was settled before the mark. -/
def State.settledFrame (mode : ReadyMode) (leaves marked : Bool) (content : Content) (s : State) : State :=
  let u := ((s.turned mode).goesOn leaves).makeCurrent content
  (s.settledTurn mode marked content).begun .next u.membership { u.cursor with lookahead := some content } u.epochs

theorem State.beginFrame_settled {s : State} {mode : ReadyMode} {content : Content} (hne : content ≠ .leave)
    {leaves marked : Bool}
    (hleaves : leaves = true ↔ s.turnedLeave (s.switchStart mode) = some .frameEnd ∨ marked = true) :
    (s.settledTurn mode marked content).beginFrame .next =
      (s.settledFrame mode leaves marked content).logChains
        ((s.settledTurn mode marked content).markRecords .next (s.barrier.frameNo + 1)
          (s.settledFrame mode leaves marked content)) := by
  refine State.beginFrame_eq ?_
  change (s.settledTurn mode marked content).startNext (s.barrier.frameNo + 1) = _
  have transition : (if s.turnedLeave (s.switchStart mode) = some .frameEnd ∨ marked = true then
        (s.settledTurn mode marked content).becomeLeaving
      else (s.settledTurn mode marked content).stayOn) =
      ((s.turned mode).goesOn leaves).withLookahead (some content) := by
    cases leaves with
    | true => rw [if_pos (hleaves.1 rfl)]; rfl
    | false =>
      have no : ¬ (s.turnedLeave (s.switchStart mode) = some .frameEnd ∨ marked = true) :=
        fun h => Bool.noConfusion (hleaves.2 h)
      rw [if_neg no]; rfl
  have run := State.startNext_of_not_due (s := s.settledTurn mode marked content) rfl
    (State.heldContent_of (s := s.settledTurn mode marked content) rfl hne) (s.barrier.frameNo + 1)
  rw [← apply_ite (State.makeCurrent content)] at run
  refine run.trans ((congrArg (State.makeCurrent content) transition).trans ?_)
  rw [State.makeCurrent_withLookahead, State.turned_transit]
  rfl

/-! ### What the two marks leave -/

/-- The content applies an entry that ends its segment (R127). -/
def State.appliesEnd (s : State) : Content → Bool
  | .apply e =>
    match (s.plan? e).map Plan.link with
    | some (.repeats _) | some .park | some .depart => true
    | some (.next _) | none => false
  | .settle _ | .idle | .parked | .abstain | .leave | .flush _ => false

theorem State.endsPass_eq (s : State) (content : Content) :
    s.endsPass content =
      (s.membership.pendingLeave == some .segmentEnd && s.cursor.repeatsLeft == 1 && s.appliesEnd content) := by
  cases content with
  | apply e => rfl
  | _ => exact (Bool.and_false _).symm

/-- The cursor's own choice is never the leave. -/
theorem State.chooseRunning_ne_leave (s : State) (frame : FrameNo) : s.chooseRunning frame ≠ .leave := by
  unfold State.chooseRunning chooseEntry
  repeat' split
  all_goals nofun

theorem State.turnFrame_current (mode : ReadyMode) (leaves : Bool) (content : Content) (s : State) :
    (s.turnFrame mode leaves content).cursor.current = some content := State.makeCurrent_current content _

/-- The generators of a turn frame. -/
theorem State.turnFrame_generators {mode : ReadyMode} (leaves : Bool) (content : Content) {s : State}
    (hturn : s.epochs.turn.isDue = true) :
    (s.turnFrame mode leaves content).generators = s.loadGenerators (s.barrier.frameNo + 1) true content := by
  have current := State.makeCurrent_current content ((s.turned mode).goesOn leaves)
  have loaded : (s.turnFrame mode leaves content).generators =
    s.loadGenerators (s.barrier.frameNo + 1) s.epochs.turn.isDue
      ((((s.turned mode).goesOn leaves).makeCurrent content).cursor.current.getD .idle) := rfl
  rw [loaded, current, hturn]
  rfl

theorem State.settledFrame_generators (mode : ReadyMode) (leaves marked : Bool) (content : Content) (s : State) :
    (s.settledFrame mode leaves marked content).generators =
      (s.settledTurn mode marked content).loadGenerators (s.barrier.frameNo + 1) false content := by
  have current := State.makeCurrent_current content ((s.turned mode).goesOn leaves)
  have loaded : (s.settledFrame mode leaves marked content).generators =
    (s.settledTurn mode marked content).loadGenerators (s.barrier.frameNo + 1) false
      ((((s.turned mode).goesOn leaves).makeCurrent content).cursor.current.getD .idle) := rfl
  rw [loaded, current]
  rfl

theorem State.turnFrame_epochs (mode : ReadyMode) (leaves : Bool) (content : Content) (s : State) :
    (s.turnFrame mode leaves content).epochs = { s.turnedEpochs mode with announced := false } := by
  have epochs : (((s.turned mode).goesOn leaves).makeCurrent content).epochs = ((s.turned mode).goesOn leaves).epochs := by
    rw [State.makeCurrent_frame]
  have goes : ((s.turned mode).goesOn leaves).epochs = s.turnedEpochs mode := by cases leaves <;> rfl
  have same : (s.turnFrame mode leaves content).epochs =
    { (((s.turned mode).goesOn leaves).makeCurrent content).epochs with announced := false } := rfl
  rw [same, epochs, goes]

theorem State.turnFrame_state (mode : ReadyMode) (leaves : Bool) (content : Content) {s : State}
    (hs : s.membership.state = .active) :
    (s.turnFrame mode leaves content).membership.state = if leaves then .leaving else .active := by
  have state : (s.turnFrame mode leaves content).membership.state = ((s.turned mode).goesOn leaves).membership.state := by
    change (((s.turned mode).goesOn leaves).makeCurrent content).membership.state = _
    rw [State.makeCurrent_frame]
  rw [state]
  cases leaves with
  | true => rfl
  | false => exact StationState.stays_active (.inr hs)

theorem State.turnFrame_resolver {mode : ReadyMode} (leaves : Bool) (content : Content) {s : State}
    (hturn : s.epochs.turn.isDue = true) :
    (s.turnFrame mode leaves content).resolver =
      { s.resolver with turnMark := true, inUse := 0, inUseFrame := some (s.barrier.frameNo + 1) } := by
  have resolver : (s.turnFrame mode leaves content).resolver =
    s.resolver.atMark (s.barrier.frameNo + 1) s.epochs.turn.isDue (s.turnFrame mode leaves content).generators := rfl
  rw [resolver, State.turnFrame_generators leaves content hturn, hturn, Resolver.atMark, State.turn_inUse]

theorem State.advanceRecords_due {s : State} {late : Bool} (h : s.epochs.turn = .advanceDue late) (frame : FrameNo) :
    s.advanceRecords frame =
      [{ body := if late then .epochLate s.epochs.switchTo else .epoch s.epochs.switchTo, frame
         epoch := s.epochs.epoch + 1 }] := by
  unfold State.advanceRecords
  rw [h]
  cases late <;> rfl

/-- The strobe records of an applied plan in a turn frame (R63, R150 to R152). -/
theorem State.turn_records {s : State} {e : Fin 64} {p : Plan} (hp : s.plan? e = some p) (frame : FrameNo) (c : Fin 4) :
    let g := (s.loadGenerators frame true (.apply e)).get c
    (p.onChannel c = none → g = {}) ∧
    ∀ r, p.onChannel c = some r →
      g.record = some r ∧
      (∀ lane, r.lane = some lane → g.phaseEnd = none ∧ g.outcome = some (.denied .turn) ∧ g.pulsesLeft = 0) ∧
      (r.lane = none →
        g.decision = some .unarbitrated ∧
        (r.reference = .mark → r.delay = 0 →
          g.phase = .on ∧ g.pulsesLeft = r.pulses - 1 ∧ g.phaseEnd = some (s.now + r.onTime) ∧ g.outcome = none) ∧
        (r.reference = .mark → r.delay ≠ 0 →
          g.phase = .delay ∧ g.pulsesLeft = r.pulses ∧ g.phaseEnd = some (s.now + r.delay) ∧ g.outcome = none) ∧
        (r.reference ≠ .mark → p.dark = false →
          g.phase = .wait ∧ g.pulsesLeft = r.pulses ∧ g.phaseEnd = none ∧ g.outcome = none) ∧
        (r.reference ≠ .mark → p.dark = true → g.phase = .done ∧ g.outcome = some .notRun)) := by
  have plan : s.appliedPlan (.apply e) = some p := hp
  have record : s.channelRecord (.apply e) c = p.onChannel c := by rw [State.channelRecord, plan]; rfl
  intro g
  refine ⟨fun h => State.loadGenerators_idle (record.trans h) frame true, fun r h => ?_⟩
  have loads : g = Generator.load s.now p.dark r (s.decideRecord frame true r) :=
    State.loadGenerators_loads plan h frame true
  refine ⟨by rw [loads]; exact (Generator.load_record _ _ _ _).1, fun lane hl => ?_, fun hl => ?_⟩
  · rw [loads, State.decideRecord_turn hl]
    exact ⟨rfl, rfl, rfl⟩
  · rw [loads, State.decideRecord_private hl]
    exact ⟨(Generator.load_record _ _ _ _).2, Generator.load_unarbitrated _ _ _⟩

/-- Settles O34. -/
theorem advanceDueTakesEffectAtTheMark : Obligations.AdvanceDueTakesEffectAtTheMark := by
  intro late mode s ht hr hw hb hst hturn hready hstaged frame start position content pending marked epochs settled own left
  have due : s.rising.epochs.turn.isDue = true := by rw [show s.rising.epochs.turn = .advanceDue late from hturn]; rfl
  have advance : s.rising.advanceEpoch = s.rising.turned mode :=
    State.advanceEpoch_eq hready hstaged (fun h => nomatch hst.symm.trans h)
  have chosen : (s.rising.turned mode).chooseRunning frame = content := rfl
  clear_value content
  have marker : (s.rising.turned mode).endsPass content = marked := by
    rw [(s.rising.turned mode).endsPass_eq content]
    clear chosen
    cases content <;> rfl
  have run := exec_frameMark_rise ht hr hw
  have runSettled := exec_frameMark_rise (s := settled) ht hr hw
  have asSettled : settled.rising = s.rising.settledTurn mode marked content := rfl
  have participant : s.rising.membership.state.participant = true := (StationState.participant_iff _).2 (.inr (.inl hst))
  have ne : content ≠ .leave := chosen ▸ State.chooseRunning_ne_leave _ _
  obtain ⟨leaves, hleaves⟩ : ∃ leaves : Bool, leaves = true ↔ pending = some .frameEnd ∨ marked = true :=
    ⟨decide (pending = some .frameEnd ∨ marked = true), decide_eq_true_iff⟩
  rw [State.actOnMark_next (s := s.rising) hb participant,
    State.beginFrame_turn (s := s.rising) due advance chosen (marker ▸ hleaves)] at run
  rw [asSettled, State.actOnMark_next (s := s.rising.settledTurn mode marked content) hb participant,
    State.beginFrame_settled (s := s.rising) ne hleaves] at runSettled
  have generators := State.turnFrame_generators (mode := mode) leaves content due
  have state := State.turnFrame_state (s := s.rising) mode leaves content hst
  refine ⟨_, _, run, runSettled, rfl, rfl, rfl, rfl, rfl, State.turnFrame_epochs mode leaves content s.rising, rfl, rfl,
    congrArg EpochUnit.epoch (State.turnFrame_epochs mode leaves content s.rising),
    State.turnFrame_current mode leaves content s.rising, fun h => ?leaves, fun h => ?stays,
    State.turnFrame_resolver leaves content due, fun c r lane hrec hl => ?denied, fun c => ?records, fun hc c => ?unrun,
    fun e p hc hp c => ?applied, ?strobes, ?log, rfl, rfl, rfl, rfl, rfl, rfl⟩
  case leaves =>
    rw [hleaves.2 h] at state ⊢
    exact ⟨state, State.begun_lookahead_leaving (s := s.rising) state⟩
  case stays =>
    rw [Bool.eq_false_iff.2 fun hl => h (hleaves.1 hl)] at state ⊢
    exact state
  case denied =>
    change ((s.rising.turnFrame mode leaves content).generators.get c).record = some r at hrec
    change ((s.rising.turnFrame mode leaves content).generators.get c).decision = _ ∧
      ((s.rising.turnFrame mode leaves content).generators.get c).phase = _
    rw [generators] at hrec ⊢
    rw [State.turn_denies ((s.rising.loadGenerators_record _ _ _ _).symm.trans hrec) hl]
    exact ⟨rfl, rfl⟩
  case records =>
    change ((s.rising.turnFrame mode leaves content).generators.get c).record =
      ((s.rising.settledFrame mode leaves marked content).generators.get c).record
    rw [generators, State.settledFrame_generators, State.loadGenerators_record, State.loadGenerators_record]
    rfl
  case unrun =>
    change (s.rising.turnFrame mode leaves content).generators.get c = {}
    rw [generators, State.loadGenerators_of_not_apply hc]
    exact get_idleGenerators c
  case applied =>
    rw [hc] at generators
    have records := State.turn_records (s := s.rising) hp (s.rising.barrier.frameNo + 1) c
    rw [← generators, ← hc] at records
    exact records
  case strobes =>
    have settles : (s.rising.turnFrame mode leaves content).barrier.strobesDone = true ↔
      ∀ c, ((s.rising.turnFrame mode leaves content).generators.get c).settled = true := allSettled_iff _
    exact settles.trans (forall_congr' fun c => Generator.settled_iff _)
  case log =>
    have notFlushing : s.rising.membership.state ≠ .flushing := fun h => nomatch hst.symm.trans h
    have hown : s.rising.endedFrameRecords .next ++
        s.rising.joinedRecords (s.barrier.frameNo + 1) (s.rising.turnFrame mode leaves content) ++
        s.rising.advanceRecords (s.barrier.frameNo + 1) = own := by
      rw [State.advanceRecords_due (s := s.rising) hturn, State.switchTo_eq (s := s.rising) hready,
        State.endedFrameRecords, State.rising_frameRecord, State.joinedRecords,
        if_neg (fun h => notFlushing h.1), List.append_nil]
      rfl
    obtain ⟨rs, perm, keepsOwn, keepsLeft, log⟩ := State.beginFrame_log hown rfl
    have hleft : s.rising.leftRecords = left := s.rising.leftRecords_eq
    have epoch : (((s.rising.turned mode).goesOn leaves).makeCurrent content).epochs.epoch = s.epochs.epoch + 1 :=
      congrArg EpochUnit.epoch (State.turnFrame_epochs mode leaves content s.rising)
    rw [hleft, epoch] at perm
    rw [hleft] at keepsLeft
    rw [FrameStart.foundedRecords, List.append_nil] at perm
    exact ⟨rs, perm, keepsOwn, keepsLeft, log⟩

end Sys2Proof.Machine
end

section
/-! SUPPORT. The handoff in closed form: what the closed list gives the roster, the resolver and the log, and that the time
up to the window's end gives the handoff nothing (R37). -/

namespace Sys2Proof.Machine

/-! ### The tick of the window end -/

/-- The state after a lapse of time, in closed form. -/
def State.lapsed (now settle lows highs : Nat) (sampled marked : Bool) (s : State) : State :=
  { s with
    now
    timebase := { s.timebase with settle }
    barrier := { s.barrier with lows, highs, sampled, marked } }

theorem State.advanceTo_lapsed (t : Nat) (s : State) :
    ∃ settle lows highs sampled marked, s.advanceTo t = s.lapsed (max s.now t) settle lows highs sampled marked :=
  s.advanceTo_closed t

theorem windowEndEffect_open {s : State} (h : s.transceiver.windowOpen = true) :
    windowEndEffect s = (s.advanceTo s.windowEndTick).handoff := if_pos h

theorem exec_windowEnd {s : State} (ht : s.ticking = true) (hw : s.transceiver.windowOpen = true) :
    exec .windowEnd s = .next (s.advanceTo s.windowEndTick).handoff :=
  (State.event_next ht).trans (congrArg Host.Outcome.next (windowEndEffect_open hw))

/-! ### The entering claims (R58) -/

theorem SlotOutcome.claims_eq_some_iff (o : SlotOutcome) (claims : List Claim) :
    o.claims = some claims ↔ ∃ n, (o = .valid n ∨ o = .ownOk n) ∧ claims = n.claims := by
  cases o <;> simp [SlotOutcome.claims, eq_comm]

theorem State.mem_entering (s : State) (slot : Fin 16) (claims : List Claim) :
    (slot, claims) ∈ s.entering ↔
      ∃ n, (s.outcomeOf slot = .valid n ∨ s.outcomeOf slot = .ownOk n) ∧ claims = n.claims := by
  rw [← SlotOutcome.claims_eq_some_iff]
  simp [State.entering]

/-- Each slot enters once at most. -/
theorem State.entering_nodup (s : State) : (s.entering.map Prod.fst).Nodup := by
  have slots : s.entering.map Prod.fst = (List.finRange 16).filter fun slot => (s.outcomeOf slot).claims.isSome := by
    rw [State.entering, List.map_filterMap, ← List.filterMap_eq_filter]
    refine List.filterMap_congr fun slot _ => ?_
    cases h : (s.outcomeOf slot).claims <;> simp [Option.guard, h]
  rw [slots]
  exact (List.nodup_finRange 16).filter _

/-! ### The own view (R50) -/

theorem SlotOutcome.isValid_iff (o : SlotOutcome) : o.isValid = true ↔ ∃ n, o = .valid n := by
  cases o <;> simp [SlotOutcome.isValid]

theorem State.ownHeard_iff (s : State) : s.ownHeard = true ↔ ∃ n, s.outcomeOf s.prof.index = .ownOk n := by
  unfold State.ownHeard
  cases s.outcomeOf s.prof.index <;> simp

theorem State.noneDamaged_iff (s : State) :
    s.noneDamaged = true ↔ ∀ slot, s.outcomeOf slot ≠ .garbage ∧ s.outcomeOf slot ≠ .lineLow := by
  simp [State.noneDamaged]

theorem State.expectedHeard_iff (s : State) :
    s.expectedHeard = true ↔ ∀ m ∈ s.roster.members, m.expected = true → ∃ n, s.outcomeOf m.index = .valid n := by
  simp only [State.expectedHeard, List.all_eq_true, Bool.or_eq_true, Bool.not_eq_true', SlotOutcome.isValid_iff]
  refine forall_congr' fun m => forall_congr' fun _ => ?_
  cases m.expected <;> simp

theorem State.completeView_iff (s : State) :
    s.completeView = true ↔
      (∀ m ∈ s.roster.members, m.expected = true → ∃ n, s.outcomeOf m.index = .valid n) ∧
      (∃ n, s.outcomeOf s.prof.index = .ownOk n) ∧ s.adoption = .none ∧ s.transceiver.closedEarly = false ∧
      ∀ slot, s.outcomeOf slot ≠ .garbage ∧ s.outcomeOf slot ≠ .lineLow := by
  simp only [State.completeView, Bool.and_eq_true, beq_iff_eq, Bool.not_eq_true', State.expectedHeard_iff,
    State.ownHeard_iff, State.noneDamaged_iff, and_assoc]

/-- An adoption leaves the view incomplete (R50). -/
theorem State.completeView_of_adoption {s : State} (h : s.adoption ≠ .none) : s.completeView = false := by
  rw [← Bool.not_eq_true, State.completeView_iff]
  exact fun hc => h hc.2.2.1

/-! ### Epochs (R139, R140) -/

theorem Adoption.takesEpoch_iff (a : Adoption) :
    a.takesEpoch = false ↔ ∀ f e, a ≠ .listening f e ∧ a ≠ .yield f e := by
  cases a <;> simp [Adoption.takesEpoch]

theorem State.oneAheadHeard_iff (s : State) :
    s.oneAheadHeard = true ↔ ∃ slot n, s.outcomeOf slot = .valid n ∧ n.epoch = s.epochs.epoch + 1 := by
  simp only [State.oneAheadHeard, List.any_eq_true, State.mem_validNotes, beq_iff_eq]
  exact ⟨fun ⟨n, ⟨slot, h⟩, e⟩ => ⟨slot, n, h, e⟩, fun ⟨slot, n, h, e⟩ => ⟨n, ⟨slot, h⟩, e⟩⟩

theorem State.adoptsEpoch_iff (s : State) :
    s.adoptsEpoch = true ↔
      s.epochs.newcomer = true ∧ (∀ f e, s.adoption ≠ .listening f e ∧ s.adoption ≠ .yield f e) ∧
        ∃ slot n, s.outcomeOf slot = .valid n ∧ n.epoch = s.epochs.epoch + 1 := by
  simp only [State.adoptsEpoch, Bool.and_eq_true, Bool.not_eq_true', State.oneAheadHeard_iff, Adoption.takesEpoch_iff,
    and_assoc]
  exact and_congr_right fun _ => and_comm

/-! ### The miss counts (R44, R46, R47) -/

/-- The miss count of a member at a window end. -/
def Member.missesAfter (limit : Nat) (heard : Bool) (m : Member) : Nat :=
  if m.expected = true ∧ heard = false then min limit (m.misses + 1) else m.misses

theorem Member.count_eq (limit : Nat) (heard : Bool) (m : Member) :
    m.count limit heard = { m with misses := m.missesAfter limit heard } := by
  have counted : (m.expected && !heard) = true ↔ m.expected = true ∧ heard = false := by simp
  unfold Member.count Member.missesAfter
  simp only [counted]
  split <;> rfl

theorem Member.isLost_count_iff (limit : Nat) (heard : Bool) (m : Member) :
    (m.count limit heard).isLost limit = true ↔ m.missesAfter limit heard = limit ∧ m.removal = .none := by
  rw [Member.count_eq]
  simp [Member.isLost]

/-- One member at a window end: counted, and LOST, stamped or left as it is. -/
theorem Member.atWindowEnd_eq (limit : Nat) (frame : FrameNo) (epoch : EpochNo) (heard : Bool) (m : Member) :
    m.atWindowEnd limit frame epoch heard =
      if m.missesAfter limit heard = limit ∧ m.removal = .none then
        { m with misses := m.missesAfter limit heard, state := .lost, removal := .lost }
      else
        { m with
          misses := m.missesAfter limit heard
          stamp := if m.removal = .left then some (frame, epoch) else m.stamp } := by
  unfold Member.atWindowEnd
  simp only [Member.isLost_count_iff]
  rw [Member.count_eq]
  by_cases h : m.missesAfter limit heard = limit ∧ m.removal = .none
  · rw [if_pos h, if_pos h]
  · rw [if_neg h, if_neg h]
    by_cases hl : m.removal = .left <;> simp [hl]

/-- The entry of an index after the window end. -/
theorem State.entry_rosterAtEnd (s : State) (view : Bool) (i : Fin 16) :
    (s.rosterAtEnd view).entry i =
      (s.roster.entry i).map fun m =>
        m.atWindowEnd s.prof.missLimit s.barrier.frameNo s.epochs.epoch (s.outcomeOf m.index).isValid := by
  simp only [Roster.entry, State.rosterAtEnd, List.find?_map, Function.comp_def, Member.atWindowEnd_index]

theorem State.mem_lostMembers {s : State} {m : Member} (hm : m ∈ s.roster.members)
    (h : m.missesAfter s.prof.missLimit (s.outcomeOf m.index).isValid = s.prof.missLimit) (hr : m.removal = .none) :
    m.index ∈ s.lostMembers :=
  List.mem_map.2 ⟨m, List.mem_filter.2 ⟨hm, (Member.isLost_count_iff _ _ _).2 ⟨h, hr⟩⟩, rfl⟩

/-- Where the entries ascend, an index finds its member. -/
theorem find_of_ascending {l : List Member} (h : l.Pairwise fun a b => a.index < b.index) {m : Member} (hm : m ∈ l) :
    l.find? (fun x => x.index == m.index) = some m := by
  induction l with
  | nil => cases hm
  | cons x rest ih =>
    obtain ⟨hx, hrest⟩ := List.pairwise_cons.1 h
    rcases List.mem_cons.1 hm with rfl | hm
    · simp
    · have ne : (x.index == m.index) = false := by simpa using (hx m hm).ne
      rw [List.find?_cons, ne]
      exact ih hrest hm

theorem State.lostMembers_pairwise {s : State} (h : s.rosterAscending = true) : s.lostMembers.Pairwise (· < ·) := by
  have asc := (ascending_iff _).1 h
  exact List.pairwise_map.2 (asc.filter _)

theorem State.entry_of_lost {s : State} (h : s.rosterAscending = true) {i : Fin 16} (hi : i ∈ s.lostMembers) :
    ∃ m, s.roster.entry i = some m ∧ m.removal = .none ∧
      m.missesAfter s.prof.missLimit (s.outcomeOf i).isValid = s.prof.missLimit := by
  obtain ⟨m, hm, rfl⟩ := List.mem_map.1 hi
  obtain ⟨hmem, hlost⟩ := List.mem_filter.1 hm
  obtain ⟨misses, removal⟩ := (Member.isLost_count_iff _ _ _).1 hlost
  exact ⟨m, find_of_ascending ((ascending_iff _).1 h) hmem, removal, misses⟩

/-! ### The fault of the window end (R75, R140) -/

theorem State.endFault_of_split {s : State} (h : s.split = true) : s.endFault = some .epochSplit := if_pos h

theorem State.endFault_of_not_split {s : State} (h : s.split = false) : s.endFault = s.quietFault :=
  if_neg (by simp [h])

theorem State.endFault_none_iff (s : State) : s.endFault = none ↔ s.split = false ∧ s.quietFault = none := by
  cases h : s.split
  · rw [State.endFault_of_not_split h]; simp
  · rw [State.endFault_of_split h]; simp

end Sys2Proof.Machine
end

section
/-! SUPPORT. What a window end without a fault leaves (O46). -/

namespace Sys2Proof.Machine

/-! ### The handoff of each block (R37) -/

/-- The state after a handoff without a fault, in closed form but for the lookahead and its marker. -/
def State.closed (look : Option Content) (leavingFrame : Bool) (s : State) : State :=
  { s with
    barrier :=
      { s.barrier with
        frameNo := s.numberAfter
        windowDone := s.barrier.windowDone || s.membership.state.participant }
    transceiver := s.transceiver.close
    roster := s.rosterAtEnd s.completeView
    resolver := s.resolverAtEnd
    membership := { s.membershipAtEnd with leavingFrame }
    cursor := { s.cursor with lookahead := look }
    epochs := s.epochsAtEnd }

theorem State.membershipAtEnd_state (s : State) : s.membershipAtEnd.state = s.membership.state := by
  obtain ⟨quiet, foreignHeard, adopted, e, -⟩ := s.membershipAtEnd_frame
  rw [e]

theorem State.membershipAtEnd_founder (s : State) : s.membershipAtEnd.founder = false := by
  obtain ⟨quiet, foreignHeard, adopted, e, -⟩ := s.membershipAtEnd_frame
  rw [e]

theorem State.membershipAtEnd_pendingLeave (s : State) : s.membershipAtEnd.pendingLeave = s.membership.pendingLeave := by
  obtain ⟨quiet, foreignHeard, adopted, e, -⟩ := s.membershipAtEnd_frame
  rw [e]

theorem State.membershipAtEnd_leavingFrame (s : State) : s.membershipAtEnd.leavingFrame = s.membership.leavingFrame := by
  obtain ⟨quiet, foreignHeard, adopted, e, -⟩ := s.membershipAtEnd_frame
  rw [e]

/-- What the lookahead `look` and its marker are after a handoff (R128, R137). -/
structure ClosesWith (s : State) (look : Option Content) (leavingFrame : Bool) : Prop where
  eq : s.afterHandoff = s.closed look leavingFrame
  stays : s.startsCatchUp = false → s.adoption = .none →
    look = s.cursor.lookahead ∧ leavingFrame = s.membership.leavingFrame
  chosen : s.startsCatchUp = false → s.membership.state.participant = true →
    ∀ f, (s.adoption = .slip f ∨ ∃ e, s.adoption = .yield f e) →
    look = some ((s.closed look leavingFrame).choose (f + 1))

/-- A new lookahead at the handoff sets the lookahead and its marker alone. -/
theorem State.closed_setLookahead (look : Option Content) (leavingFrame : Bool) (content : Content) (s : State) :
    ∃ marker, (s.closed look leavingFrame).setLookahead content = s.closed (some content) marker := ⟨_, rfl⟩

theorem State.cursorAtEnd_catchUp {u before : State} (h : before.startsCatchUp = true) :
    u.cursorAtEnd before = u.setLookahead .abstain := if_pos h

/-- A slip or a yield repeats the choice at a participant, any other adoption leaves the lookahead (R128). -/
theorem State.cursorAtEnd_adopts {u before : State} (h : before.startsCatchUp = false) {f : FrameNo}
    (ha : before.adoption = .slip f ∨ ∃ e, before.adoption = .yield f e) :
    u.cursorAtEnd before = if u.membership.state.participant then u.setLookahead (u.choose (f + 1)) else u := by
  unfold State.cursorAtEnd
  rcases ha with ha | ⟨e, ha⟩ <;> simp only [h, ha] <;> rfl

theorem State.cursorAtEnd_stays {u before : State} (h : before.startsCatchUp = false)
    (ha : before.adoption = .none ∨ ∃ f e, before.adoption = .listening f e) : u.cursorAtEnd before = u := by
  unfold State.cursorAtEnd
  rcases ha with ha | ⟨f, e, ha⟩ <;> simp only [h, ha] <;> rfl

theorem State.closesWith (s : State) : ∃ look leavingFrame, ClosesWith s look leavingFrame := by
  have start : s.afterHandoff = (s.closed s.cursor.lookahead s.membershipAtEnd.leavingFrame).cursorAtEnd s := rfl
  have state : (s.closed s.cursor.lookahead s.membershipAtEnd.leavingFrame).membership.state = s.membership.state :=
    s.membershipAtEnd_state
  cases hc : s.startsCatchUp
  · have adopts (f : FrameNo) (ha : s.adoption = .slip f ∨ ∃ e, s.adoption = .yield f e) :
        ∃ look leavingFrame, ClosesWith s look leavingFrame := by
      have run := start.trans (State.cursorAtEnd_adopts hc ha)
      have only (g : FrameNo) (hg : s.adoption = .slip g ∨ ∃ e, s.adoption = .yield g e) : g = f := by
        rcases ha with h | ⟨e, h⟩ <;> rcases hg with h' | ⟨e', h'⟩ <;> rw [h] at h' <;> cases h' <;> rfl
      have not : s.adoption ≠ .none := by rcases ha with h | ⟨e, h⟩ <;> rw [h] <;> nofun
      cases hp : s.membership.state.participant
      · rw [state, if_neg (by simp [hp])] at run
        exact ⟨_, _, run, fun _ h => absurd h not, fun _ h => nomatch hp.symm.trans h⟩
      · rw [state, if_pos hp] at run
        obtain ⟨marker, e⟩ := State.closed_setLookahead s.cursor.lookahead s.membershipAtEnd.leavingFrame
          ((s.closed s.cursor.lookahead s.membershipAtEnd.leavingFrame).choose (f + 1)) s
        exact ⟨_, marker, run.trans e, fun _ h => absurd h not, fun _ _ g hg => by rw [only g hg]; rfl⟩
    have keeps (ha : s.adoption = .none ∨ ∃ f e, s.adoption = .listening f e) :
        ∃ look leavingFrame, ClosesWith s look leavingFrame := by
      refine ⟨_, _, start.trans (State.cursorAtEnd_stays hc ha),
        fun _ _ => ⟨rfl, s.membershipAtEnd_leavingFrame⟩, fun _ _ f hf => ?_⟩
      rcases ha with h | ⟨f, e, h⟩ <;> rcases hf with h' | ⟨e', h'⟩ <;> cases h.symm.trans h'
    cases ha : s.adoption with
    | none => exact keeps (.inl ha)
    | listening f e => exact keeps (.inr ⟨f, e, ha⟩)
    | slip f => exact adopts f (.inl ha)
    | yield f e => exact adopts f (.inr ⟨e, ha⟩)
  · obtain ⟨marker, e⟩ := State.closed_setLookahead s.cursor.lookahead s.membershipAtEnd.leavingFrame .abstain s
    exact ⟨_, marker, (start.trans (State.cursorAtEnd_catchUp hc)).trans e, fun h => Bool.noConfusion (hc.symm.trans h),
      fun h => Bool.noConfusion (hc.symm.trans h)⟩

/-! ### The release at the window end (R6, R8, R87) -/

/-- With the window's end the last release condition is in hand (R6, R8). -/
def State.lastAtEnd (s : State) : Prop :=
  s.barrier.phase = .holding ∧ s.barrier.minTimeDone = true ∧ s.barrier.exposuresDone = true ∧
    s.barrier.strobesDone = true ∧ (s.barrier.windowDone = true ∨ s.membership.state.participant = true)

theorem State.closed_last_iff (look : Option Content) (leavingFrame : Bool) (s : State) :
    (s.closed look leavingFrame).barrier.last ↔ s.lastAtEnd := by
  have done : (s.closed look leavingFrame).barrier.windowDone = (s.barrier.windowDone || s.membership.state.participant) :=
    rfl
  unfold Barrier.last State.lastAtEnd
  rw [Barrier.allMet_iff, done, Bool.or_eq_true]
  exact and_congr_right fun _ => ⟨fun ⟨h1, h2, h3, h4⟩ => ⟨h2, h3, h4, h1⟩, fun ⟨h2, h3, h4, h1⟩ => ⟨h1, h2, h3, h4⟩⟩

theorem State.handoff_of_none {s : State} (h : s.endFault = none) : s.handoff = s.afterHandoff.finish s.endRecords := by
  unfold State.handoff; rw [h]

theorem State.handoff_of_fault {s : State} {cause : FaultCause} (h : s.endFault = some cause) :
    s.handoff = s.detach cause s.endRecords := by
  unfold State.handoff; rw [h]

/-- The state of a station that stays in the rig after a window end. -/
def State.closedAs (look : Option Content) (leavingFrame : Bool) (phase : Phase) (pulled : Bool) (holdStart : Option Nat)
    (s : State) : State :=
  { s.closed look leavingFrame with
    barrier := { (s.closed look leavingFrame).barrier with phase, pulled, holdStart } }

/-- A station that stays in the rig releases FRAME at the last condition, and else keeps its phase. -/
theorem State.handoff_stays {s : State} (hf : s.endFault = none) (hno : ¬ (s.lastAtEnd ∧ s.membership.state = .leaving)) :
    ∃ look leavingFrame phase pulled holdStart, ClosesWith s look leavingFrame ∧
      (s.lastAtEnd → phase = .released ∧ pulled = false ∧ holdStart = none) ∧
      (¬ s.lastAtEnd → phase = s.barrier.phase ∧ pulled = s.barrier.pulled) ∧
      s.handoff = (s.closedAs look leavingFrame phase pulled holdStart).logChains s.endRecords := by
  obtain ⟨look, leavingFrame, hc⟩ := s.closesWith
  have state : (s.closed look leavingFrame).membership.state = s.membership.state := s.membershipAtEnd_state
  have run := State.handoff_of_none hf
  rw [hc.eq] at run
  by_cases hl : s.lastAtEnd
  · have stays : (s.closed look leavingFrame).membership.state ≠ .leaving := by
      rw [state]; exact fun h => hno ⟨hl, h⟩
    rw [State.finish_of_last ((State.closed_last_iff _ _ _).2 hl) stays] at run
    exact ⟨look, leavingFrame, .released, false, none, hc, fun _ => ⟨rfl, rfl, rfl⟩, fun h => absurd hl h, run⟩
  · rw [State.finish_of_not_last (fun h => hl ((State.closed_last_iff _ _ _).1 h))] at run
    exact ⟨look, leavingFrame, s.barrier.phase, s.barrier.pulled, s.barrier.holdStart, hc, fun h => absurd h hl,
      fun _ => ⟨rfl, rfl⟩, run⟩

/-- A LEAVING station's leave completes with the last condition (R87). -/
theorem State.handoff_leaves {s : State} (hf : s.endFault = none) (hl : s.lastAtEnd) (hs : s.membership.state = .leaving) :
    ∃ look leavingFrame, s.handoff = (s.closed look leavingFrame).enterStandby (some false) s.endRecords := by
  obtain ⟨look, leavingFrame, hc⟩ := s.closesWith
  have state : (s.closed look leavingFrame).membership.state = .leaving := s.membershipAtEnd_state.trans hs
  have run := State.handoff_of_none hf
  rw [hc.eq, State.finish_of_last_leaving ((State.closed_last_iff _ _ _).2 hl) state] at run
  exact ⟨look, leavingFrame, run⟩

end Sys2Proof.Machine
end

section
/-! SUPPORT. The window end hands over the list (O46). -/

namespace Sys2Proof.Machine

/-! ### The records of the window end -/

/-- The records of a window end without a fault, in the order of their blocks (R31, R46, R47, R74, R80, R139). -/
def State.windowRecords (s : State) : List Record :=
  (if s.transceiver.foreignSet = 0 then [] else [s.record (.foreign s.transceiver.foreignSet)]) ++
    (s.lostMembers.map fun i => s.record (.memberLost i)) ++
    (match s.adoption with
      | .none => []
      | .listening frame epoch => [{ body := .adopted, frame, epoch }]
      | .slip frame => [s.record (.slip s.barrier.frameNo frame)]
      | .yield frame epoch => [{ body := .yielded, frame, epoch }]) ++
    (if s.adoptsEpoch then [{ s.record .epochAdopted with epoch := s.epochs.epoch + 1 }] else [])

theorem State.endRecords_flatten {s : State} (h : s.split = false) : s.endRecords.flatten = s.windowRecords := by
  unfold State.endRecords State.windowRecords
  simp only [h, Bool.not_false, Bool.and_true, List.flatten_cons, List.flatten_nil, List.append_nil, List.append_assoc,
    Bool.false_eq_true, if_false] <;> rfl

theorem State.lost_mem_endRecords (s : State) : (s.lostMembers.map fun i => s.record (.memberLost i)) ∈ s.endRecords :=
  List.mem_cons_of_mem _ List.mem_cons_self

/-- At a station that takes no epoch from an adoption the epoch moves with EPOCH_ADOPTED alone. -/
theorem State.epochAfter_of {s : State} (h : s.adoption.takesEpoch = false) :
    s.epochAfter = if s.adoptsEpoch then s.epochs.epoch + 1 else s.epochs.epoch := by
  unfold State.epochAfter
  cases ha : s.adoption <;> rw [ha] at h <;> first | rfl | cases h

/-- A LEAVING station takes no epoch from an adoption (R17, R19). -/
theorem State.takesEpoch_of_leaving {s : State} (h : s.membership.state = .leaving) : s.adoption.takesEpoch = false := by
  rw [Adoption.takesEpoch_iff]
  refine fun f e => ⟨fun ha => ?_, fun ha => ?_⟩
  · have := ((s.listeningAdoption_iff f e).1 (State.adoption_listening_iff.1 ha)).1
    cases h.symm.trans this
  · have := ((s.yieldAdoption_iff f e).1 (State.adoption_yield_iff.1 ha)).1
    cases h.symm.trans this

/-- The FRAME record of a frame that the window end ends. -/
theorem State.closed_frameRecord (look : Option Content) (leavingFrame truncated : Bool) (s : State) :
    (s.closed look leavingFrame).cutGenerators.frameRecord truncated = s.cutGenerators.frameRecord truncated := by
  have resolver : s.resolverAtEnd.turnMark = s.resolver.turnMark ∧ s.resolverAtEnd.inUse = s.resolver.inUse := by
    unfold State.resolverAtEnd; split <;> exact ⟨rfl, rfl⟩
  exact State.frameRecord_congr truncated rfl rfl rfl rfl rfl rfl rfl resolver.1 resolver.2 rfl rfl

/-! ### What the handoff leaves -/

/-- What a window end leaves at a station that stays in the rig. -/
structure HandsOver (s t : State) : Prop where
  transceiver : t.transceiver = s.transceiver.close
  windowDone : t.barrier.windowDone = (s.barrier.windowDone || s.membership.state.participant)
  released : s.lastAtEnd → t.barrier.phase = .released ∧ t.barrier.pulled = false ∧ t.barrier.holdStart = none
  kept : ¬ s.lastAtEnd → t.barrier.phase = s.barrier.phase ∧ t.barrier.pulled = s.barrier.pulled
  run : t.barrier.runFrame = s.barrier.runFrame ∧ t.barrier.runEpoch = s.barrier.runEpoch
  number : t.barrier.frameNo = s.numberAfter
  state : t.membership.state = s.membership.state
  founder : t.membership.founder = false
  membership : ∃ leavingFrame, t.membership = { s.membershipAtEnd with leavingFrame }
  roster : t.roster = s.rosterAtEnd s.completeView
  resolver : t.resolver = s.resolverAtEnd
  epochs : t.epochs = s.epochsAtEnd
  log : ∃ rs : List Record, rs.Perm s.windowRecords ∧
    (s.lostMembers.map fun i => s.record (.memberLost i)).Sublist rs ∧ t.log = rs.foldl StationLog.append s.log
  stays : s.adoption = .none → s.startsCatchUp = false →
    t.cursor = s.cursor ∧ t.membership.pendingLeave = s.membership.pendingLeave ∧
      t.membership.leavingFrame = s.membership.leavingFrame
  chosen : s.startsCatchUp = false → s.membership.state.participant = true →
    ∀ f, (s.adoption = .slip f ∨ ∃ e, s.adoption = .yield f e) → t.cursor.lookahead = some (t.choose (f + 1))
  current : t.cursor.current = s.cursor.current
  sequencer : t.sequencer = s.sequencer
  generators : t.generators = s.generators
  table : t.table = s.table
  verifier : t.verifier = s.verifier
  port : t.port = s.port
  profile : t.profile = s.profile

theorem State.handoff_handsOver {s : State} (hf : s.endFault = none)
    (hno : ¬ (s.lastAtEnd ∧ s.membership.state = .leaving)) : HandsOver s s.handoff ∧ s.handoff.now = s.now := by
  obtain ⟨look, leavingFrame, phase, pulled, holdStart, hc, released, kept, run⟩ := State.handoff_stays hf hno
  obtain ⟨rs, perm, keeps, log⟩ :=
    (s.closedAs look leavingFrame phase pulled holdStart).logChains_order s.endRecords
  rw [State.endRecords_flatten (s.endFault_none_iff.1 hf).1] at perm
  rw [run]
  refine ⟨⟨rfl, rfl, released, kept, ⟨rfl, rfl⟩, rfl, s.membershipAtEnd_state, s.membershipAtEnd_founder,
    ⟨leavingFrame, rfl⟩, rfl, rfl, rfl, ⟨rs, perm, keeps _ s.lost_mem_endRecords, log⟩, fun ha hn => ?_, hc.chosen,
    rfl, rfl, rfl, rfl, rfl, rfl, rfl⟩, rfl⟩
  obtain ⟨rfl, rfl⟩ := hc.stays hn ha
  exact ⟨rfl, s.membershipAtEnd_pendingLeave, rfl⟩

/-- The time up to the window's end gives the handoff nothing. -/
theorem HandsOver.of_lapsed {s t : State} {now settle lows highs : Nat} {sampled marked : Bool}
    (h : HandsOver (s.lapsed now settle lows highs sampled marked) t) : HandsOver s t := { h with }

end Sys2Proof.Machine
end

section
/-! SUPPORT. The window end, with the release of a leaving station's frame (O46). -/

namespace Sys2Proof.Machine

/-- Entry to STANDBY appends the tick's records, and the FRAME record before LEFT (R90, R164). -/
theorem State.enterStandby_order (truncated : Bool) (chains : List (List Record)) (s : State) :
    ∃ rs : List Record,
      rs.Perm (chains.flatten ++ (s.cutGenerators.frameRecord truncated ++ [s.record .left])) ∧
      (∀ c ∈ chains, c.Sublist rs) ∧ (s.cutGenerators.frameRecord truncated ++ [s.record .left]).Sublist rs ∧
      (s.enterStandby (some truncated) chains).log = rs.foldl StationLog.append s.log := by
  obtain ⟨rs, perm, keeps, log⟩ := (s.clearRig .standby none true).logChains_order
    (chains ++ [s.cutGenerators.frameRecord truncated ++ [s.record .left]])
  rw [List.flatten_append, List.flatten_singleton] at perm
  exact ⟨rs, perm, fun c hc => keeps c (List.mem_append_left _ hc), keeps _ (by simp), log⟩

/-- What a window end leaves at a station whose leave completes with it (R87, R90). -/
structure LeavesAtEnd (s t : State) : Prop where
  state : t.membership.state = .standby
  barrier : t.barrier.phase = .dormant ∧ t.barrier.pulled = false ∧ t.barrier.frameNo = 0
  cleared : t.roster = {} ∧ t.resolver = {} ∧ t.cursor = {} ∧ t.epochs = {} ∧ t.transceiver.windowOpen = false
  log : ∃ rs : List Record,
    rs.Perm (s.windowRecords ++ s.cutGenerators.frameRecord false ++
      [{ body := .left, frame := s.numberAfter
         epoch := if s.adoptsEpoch then s.epochs.epoch + 1 else s.epochs.epoch }]) ∧
    (s.lostMembers.map fun i => s.record (.memberLost i)).Sublist rs ∧
    (s.cutGenerators.frameRecord false ++
      [({ body := .left, frame := s.numberAfter
          epoch := if s.adoptsEpoch then s.epochs.epoch + 1 else s.epochs.epoch } : Record)]).Sublist rs ∧
    t.log = rs.foldl StationLog.append s.log
  kept : t.table = s.table ∧ t.verifier = s.verifier ∧ t.port = s.port ∧ t.profile = s.profile

theorem State.handoff_leavesAtEnd {s : State} (hf : s.endFault = none) (hl : s.lastAtEnd)
    (hs : s.membership.state = .leaving) : LeavesAtEnd s s.handoff ∧ s.handoff.now = s.now := by
  obtain ⟨look, leavingFrame, run⟩ := State.handoff_leaves hf hl hs
  obtain ⟨rs, perm, keeps, own, log⟩ := (s.closed look leavingFrame).enterStandby_order false s.endRecords
  have left : (s.closed look leavingFrame).record .left =
      { body := .left, frame := s.numberAfter
        epoch := if s.adoptsEpoch then s.epochs.epoch + 1 else s.epochs.epoch } := by
    rw [← State.epochAfter_of (State.takesEpoch_of_leaving hs)]
    rfl
  rw [State.closed_frameRecord, left] at perm own
  rw [State.endRecords_flatten (s.endFault_none_iff.1 hf).1, ← List.append_assoc] at perm
  rw [run]
  exact ⟨⟨rfl, ⟨rfl, rfl, rfl⟩, ⟨rfl, rfl, rfl, rfl, rfl⟩, ⟨rs, perm, keeps _ s.lost_mem_endRecords, own, log⟩,
    ⟨rfl, rfl, rfl, rfl⟩⟩, rfl⟩

theorem LeavesAtEnd.of_lapsed {s t : State} {now settle lows highs : Nat} {sampled marked : Bool}
    (h : LeavesAtEnd (s.lapsed now settle lows highs sampled marked) t) : LeavesAtEnd s t := { h with }

/-- A window end without a fault hands the list over at its tick. -/
theorem windowEnd_handsOver {s : State} (hf : s.endFault = none) :
    (s.advanceTo s.windowEndTick).handoff.now = max s.now s.windowEndTick ∧
    (¬ (s.lastAtEnd ∧ s.membership.state = .leaving) → HandsOver s (s.advanceTo s.windowEndTick).handoff) ∧
    (s.lastAtEnd ∧ s.membership.state = .leaving → LeavesAtEnd s (s.advanceTo s.windowEndTick).handoff) := by
  obtain ⟨settle, lows, highs, sampled, marked, e⟩ := s.advanceTo_lapsed s.windowEndTick
  rw [e]
  have fault : (s.lapsed (max s.now s.windowEndTick) settle lows highs sampled marked).endFault = none := hf
  by_cases hl : s.lastAtEnd ∧ s.membership.state = .leaving
  · obtain ⟨leaves, now⟩ := State.handoff_leavesAtEnd fault hl.1 hl.2
    exact ⟨now, fun h => absurd hl h, fun _ => leaves.of_lapsed⟩
  · obtain ⟨hands, now⟩ := State.handoff_handsOver fault hl
    exact ⟨now, fun _ => hands.of_lapsed, fun h => absurd h hl⟩

/-- A catch-up starts at an ACTIVE station that announced readiness into an incomplete view alone (R137). -/
theorem State.startsCatchUp_false {s : State}
    (h : s.membership.state ≠ .active ∨ s.epochs.announced = false ∨ s.completeView = true) :
    s.startsCatchUp = false := by
  unfold State.startsCatchUp State.decisive
  rcases h with h | h | h <;> simp [h]

/-- The grant table of a station that judges notes (R58 to R61). -/
theorem State.resolverAtEnd_table {s : State} (h : s.membership.state.judgesSplit = true) :
    ∃ g, s.resolverAtEnd.table = some g ∧ g.frame = s.numberAfter + 1 ∧ g.complete = s.completeView ∧
      ∀ lane, g.lanes.get lane =
        laneEntry s.prof.width ((s.numberAfter + 1).toNat % s.prof.width) s.entering lane := by
  unfold State.resolverAtEnd
  rw [if_pos h]
  exact ⟨_, rfl, rfl, rfl, fun lane => vector_get_ofFn _ lane⟩

theorem State.resolverAtEnd_keeps (s : State) :
    (s.membership.state.judgesSplit = false → s.resolverAtEnd = s.resolver) ∧
      s.resolverAtEnd.turnMark = s.resolver.turnMark ∧ s.resolverAtEnd.inUse = s.resolver.inUse := by
  unfold State.resolverAtEnd
  cases s.membership.state.judgesSplit
  · exact ⟨fun _ => rfl, rfl, rfl⟩
  · exact ⟨nofun, rfl, rfl⟩

/-- The entry of a member after the window end (R44, R46, R47). -/
theorem State.entry_atEnd {s : State} {i : Fin 16} {m : Member} (h : s.roster.entry i = some m) (view : Bool) :
    ∃ m', (s.rosterAtEnd view).entry i = some m' ∧
      m'.misses = m.missesAfter s.prof.missLimit (s.outcomeOf i).isValid ∧
      (m.missesAfter s.prof.missLimit (s.outcomeOf i).isValid = s.prof.missLimit → m.removal = .none →
        m'.state = .lost ∧ m'.removal = .lost ∧ i ∈ s.lostMembers) ∧
      (¬ (m.missesAfter s.prof.missLimit (s.outcomeOf i).isValid = s.prof.missLimit ∧ m.removal = .none) →
        m'.state = m.state ∧ m'.removal = m.removal) ∧
      m'.stamp = (if m.removal = .left then some (s.barrier.frameNo, s.epochs.epoch) else m.stamp) := by
  have mem : m ∈ s.roster.members := List.mem_of_find?_eq_some h
  have index : m.index = i := by simpa using List.find?_some h
  subst index
  refine ⟨_, (s.entry_rosterAtEnd view m.index).trans (congrArg _ h), ?_⟩
  beta_reduce
  rw [Member.atWindowEnd_eq]
  by_cases hl : m.missesAfter s.prof.missLimit (s.outcomeOf m.index).isValid = s.prof.missLimit ∧ m.removal = .none
  · rw [if_pos hl]
    refine ⟨rfl, fun h1 h2 => ⟨rfl, rfl, State.mem_lostMembers mem h1 h2⟩, fun h' => absurd hl h', ?_⟩
    rw [if_neg (by rw [hl.2]; nofun)]
  · rw [if_neg hl]
    exact ⟨rfl, fun h1 h2 => absurd ⟨h1, h2⟩ hl, fun _ => ⟨rfl, rfl⟩, rfl⟩

/-- Settles O46. -/
theorem windowEndHandsOverTheList : Obligations.WindowEndHandsOverTheList := by
  intro s ht hw hf last number tick records
  obtain ⟨now, hands, leaves⟩ := windowEnd_handsOver hf
  refine ⟨s.mem_entering, s.entering_nodup, fun start h => by rw [State.windowEndTick, h]; rfl, s.adoptsEpoch_iff,
    s.membership.state.judgesSplit_iff, s.membership.state.participant_iff,
    fun hasc => ⟨State.lostMembers_pairwise hasc, fun i hi => State.entry_of_lost hasc hi⟩,
    _, exec_windowEnd ht hw, now, ?_⟩
  by_cases hl : s.lastAtEnd ∧ s.membership.state = .leaving
  · obtain ⟨state, ⟨phase, pulled, frameNo⟩, ⟨roster, resolver, cursor, epochs, window⟩, log,
      table, verifier, port, profile⟩ := leaves hl
    exact ⟨table, verifier, port, profile,
      fun _ => ⟨state, phase, pulled, frameNo, roster, resolver, cursor, epochs, window, log⟩, fun h => absurd hl h⟩
  · have h := hands hl
    obtain ⟨judges, turnMark, inUse⟩ := s.resolverAtEnd_keeps
    refine ⟨h.table, h.verifier, h.port, h.profile, fun h' => absurd h' hl, fun _ => ?_⟩
    rw [h.transceiver, h.roster, h.resolver]
    refine ⟨rfl, rfl, rfl, rfl, h.windowDone, h.released, h.kept, h.run.1, h.run.2, h.number, h.state, h.founder, rfl, rfl,
      ?view, fun i m hm => State.entry_atEnd hm _, State.resolverAtEnd_table, judges, turnMark, inUse, h.log,
      fun ha hc => h.stays ha (State.startsCatchUp_false hc), h.current, h.sequencer, h.generators⟩
    exact Option.some_inj.trans s.completeView_iff

end Sys2Proof.Machine
end

section
/-! SUPPORT. Faults, slips and yields of a window end (O47), and a listener's count (O50). -/

namespace Sys2Proof.Machine

/-! ### The conditions of the adoptions over slots (R17 to R19) -/

/-- A list's filtered image has two items when two of its items, both kept, differ. -/
theorem two_le_length_filterMap {α β : Type} [DecidableEq α] {l : List α} (hl : l.Nodup) (g : α → Option β) :
    2 ≤ (l.filterMap g).length ↔ ∃ a ∈ l, ∃ b ∈ l, a ≠ b ∧ (g a).isSome = true ∧ (g b).isSome = true := by
  have length : (l.filterMap g).length = (l.filter fun a => (g a).isSome).length := by
    induction l with
    | nil => rfl
    | cons a l ih =>
      have ih := ih (List.nodup_cons.1 hl).2
      cases h : g a <;> simp [h, ih]
  have kept := hl.filter fun a => (g a).isSome
  rw [length, ← List.toFinset_card_of_nodup kept]
  refine Finset.one_lt_card.trans ?_
  simp only [List.mem_toFinset, List.mem_filter]
  exact ⟨fun ⟨a, ⟨ha, ga⟩, b, ⟨hb, gb⟩, ne⟩ => ⟨a, ha, b, hb, ne, ga, gb⟩,
    fun ⟨a, ha, b, hb, ne, ga, gb⟩ => ⟨a, ⟨ha, ga⟩, b, ⟨hb, gb⟩, ne⟩⟩

/-- The note heard in a slot, VALID or SLIP. -/
def SlotOutcome.heard : SlotOutcome → Option Note
  | .valid n | .slip n => some n
  | .pending | .silent | .lineLow | .garbage | .foreign | .ownOk _ | .ownMismatch | .notSent => none

theorem SlotOutcome.heard_iff (o : SlotOutcome) (n : Note) : o.heard = some n ↔ o = .valid n ∨ o = .slip n := by
  cases o <;> simp [SlotOutcome.heard]

theorem State.heardNotes_eq (s : State) : s.heardNotes = (List.finRange 16).filterMap fun slot => (s.outcomeOf slot).heard := by
  unfold State.heardNotes
  refine List.filterMap_congr fun slot _ => ?_
  cases s.outcomeOf slot <;> rfl

/-- A note that is heard and of one kind. -/
def State.told (s : State) (p : Note → Bool) (slot : Fin 16) (n : Note) : Prop :=
  (s.outcomeOf slot = .valid n ∨ s.outcomeOf slot = .slip n) ∧ p n = true

theorem State.mem_heard_filter {s : State} {p : Note → Bool} {n : Note} :
    n ∈ s.heardNotes.filter p ↔ ∃ slot, s.told p slot n := by
  rw [List.mem_filter, State.mem_heardNotes]
  exact ⟨fun ⟨⟨slot, h⟩, hp⟩ => ⟨slot, h, hp⟩, fun ⟨slot, h, hp⟩ => ⟨⟨slot, h⟩, hp⟩⟩

theorem State.two_told_iff (s : State) (p : Note → Bool) :
    2 ≤ (s.heardNotes.filter p).length ↔ ∃ a b n m, a ≠ b ∧ s.told p a n ∧ s.told p b m := by
  rw [State.heardNotes_eq, List.filter_filterMap, two_le_length_filterMap (List.nodup_finRange 16)]
  have kept (slot : Fin 16) : ((s.outcomeOf slot).heard.filter p).isSome = true ↔ ∃ n, s.told p slot n := by
    simp only [Option.isSome_iff_exists, Option.filter_eq_some_iff, SlotOutcome.heard_iff, State.told]
  simp only [kept, List.mem_finRange, true_and]
  exact ⟨fun ⟨a, b, ne, ⟨n, ha⟩, m, hb⟩ => ⟨a, b, n, m, ne, ha, hb⟩,
    fun ⟨a, b, n, m, ne, ha, hb⟩ => ⟨a, b, ne, ⟨n, ha⟩, m, hb⟩⟩

theorem State.heard_filter_ne_nil (s : State) (p : Note → Bool) :
    s.heardNotes.filter p ≠ [] ↔ ∃ slot n, s.told p slot n := by
  have some : s.heardNotes.filter p ≠ [] ↔ ∃ n, n ∈ s.heardNotes.filter p :=
    ⟨List.exists_mem_of_ne_nil _, fun ⟨_, h⟩ => List.ne_nil_of_mem h⟩
  rw [some]
  simp only [State.mem_heard_filter]
  exact exists_comm

theorem State.forall_heard_filter {s : State} {p : Note → Bool} {q : Note → Prop} :
    (∀ n ∈ s.heardNotes.filter p, q n) ↔ ∀ slot n, s.told p slot n → q n := by
  simp only [State.mem_heard_filter]
  exact ⟨fun h slot n ht => h n ⟨slot, ht⟩, fun h n ⟨slot, ht⟩ => h slot n ht⟩

/-! ### The slip, the yield and the listener's adoption (R17 to R19) -/

/-- A STATUS or LEAVE note is heard in the slot. -/
def State.toldNumber (s : State) (slot : Fin 16) (n : Note) : Prop :=
  (s.outcomeOf slot = .valid n ∨ s.outcomeOf slot = .slip n) ∧ (n.kind = .status ∨ n.kind = .leave)

theorem State.told_number_iff {s : State} {slot : Fin 16} {n : Note} :
    s.told (fun n => n.kind == .status || n.kind == .leave) slot n ↔ s.toldNumber slot n := by
  simp only [State.told, State.toldNumber, Bool.or_eq_true, beq_iff_eq]

/-- A STATUS note is heard in the slot. -/
def State.toldStatus (s : State) (slot : Fin 16) (n : Note) : Prop :=
  (s.outcomeOf slot = .valid n ∨ s.outcomeOf slot = .slip n) ∧ n.kind = .status

theorem State.told_status_iff {s : State} {slot : Fin 16} {n : Note} :
    s.told (fun n => n.kind == .status) slot n ↔ s.toldStatus slot n := by
  simp only [State.told, State.toldStatus, beq_iff_eq]

theorem State.hasNumber_iff_states (s : State) :
    s.hasNumber = true ↔
      s.membership.state = .joining ∨ s.membership.state = .flushing ∨ s.membership.state = .active ∨
        s.membership.state = .leaving ∨ (s.membership.state = .listening ∧ s.membership.adopted.isSome = true) := by
  rw [State.hasNumber_iff, StationState.judgesSplit_iff]
  simp only [or_assoc]

/-- When a window end slips (R18). -/
theorem State.slips_iff (s : State) (f : FrameNo) :
    s.adoption = .slip f ↔
      (s.membership.state = .joining ∨ s.membership.state = .flushing ∨ s.membership.state = .active ∨
          s.membership.state = .leaving ∨ (s.membership.state = .listening ∧ s.membership.adopted.isSome = true)) ∧
        s.membership.founder = false ∧ (∃ slot n, s.toldNumber slot n) ∧
        (∀ slot n, s.toldNumber slot n → n.frame = f) ∧
        f ≠ s.barrier.frameNo ∧
        ((∃ a b n m, a ≠ b ∧ s.toldNumber a n ∧ s.toldNumber b m) ∨
          ∃ a n, s.toldNumber a n ∧ n.index < s.prof.index) := by
  have lower : (∃ n ∈ s.slipNotes, n.index < s.prof.index) ↔ ∃ a n, s.toldNumber a n ∧ n.index < s.prof.index := by
    unfold State.slipNotes
    simp only [State.mem_heard_filter, State.told_number_iff]
    exact ⟨fun ⟨n, ⟨slot, h⟩, hi⟩ => ⟨slot, n, h, hi⟩, fun ⟨slot, n, h, hi⟩ => ⟨n, ⟨slot, h⟩, hi⟩⟩
  rw [State.adoption_slip_iff, State.slipAdoption_iff, State.hasNumber_iff_states, lower]
  unfold State.slipNotes
  simp only [State.heard_filter_ne_nil, State.forall_heard_filter, State.two_told_iff, State.told_number_iff]

/-- When the founder yields (R19). -/
theorem State.yields_iff (s : State) (f : FrameNo) (e : EpochNo) :
    s.adoption = .yield f e ↔
      s.membership.state = .flushing ∧ s.membership.founder = true ∧ (∃ slot n, s.toldStatus slot n) ∧
        (∀ slot n, s.toldStatus slot n → n.frame = f ∧ n.epoch = e) ∧
        (f ≠ s.barrier.frameNo ∨ e ≠ s.epochs.epoch) := by
  rw [State.adoption_yield_iff, State.yieldAdoption_iff]
  simp only [State.heard_filter_ne_nil, State.forall_heard_filter, State.told_status_iff]

theorem State.validNotes_ne_nil (s : State) : s.validNotes ≠ [] ↔ ∃ slot n, s.outcomeOf slot = .valid n := by
  rw [← not_iff_not, not_not, ← List.isEmpty_iff, State.validNotes_isEmpty_iff]
  simp

/-- When a listener adopts (R17). -/
theorem State.listens_iff (s : State) (f : FrameNo) (e : EpochNo) :
    s.adoption = .listening f e ↔
      s.membership.state = .listening ∧ s.membership.adopted = none ∧ (∃ slot n, s.outcomeOf slot = .valid n) ∧
        ∀ slot n, s.outcomeOf slot = .valid n → n.frame = f ∧ n.epoch = e := by
  rw [State.adoption_listening_iff, State.listeningAdoption_iff, State.validNotes_ne_nil]
  simp only [State.mem_validNotes]
  refine and_congr_right fun _ => and_congr_right fun _ => and_congr_right fun _ => ?_
  exact ⟨fun h slot n hn => h n ⟨slot, hn⟩, fun h n ⟨slot, hn⟩ => h slot n hn⟩

/-! ### The faults (R75, R140) -/

/-- When a window end finds a split (R140). -/
theorem State.split_iff (s : State) :
    s.split = true ↔
      (s.membership.state = .joining ∨ s.membership.state = .flushing ∨ s.membership.state = .active ∨
          s.membership.state = .leaving) ∧
        (∀ f e, s.adoption ≠ .yield f e) ∧
        ∃ slot n, s.outcomeOf slot = .valid n ∧ (n.sender = .active ∨ n.sender = .leaving) ∧
          s.roster.settled.getLsbD n.index.val = true ∧ n.epoch ≠ s.epochs.epoch ∧
          ¬ (n.epoch = s.epochs.epoch - 1 ∧ n.catchup = true) ∧
          ¬ (n.epoch = s.epochs.epoch + 1 ∧ (s.epochs.turn = .catchingUp ∨ s.epochs.newcomer = true)) := by
  have judged (n : Note) : (s.judges n && !s.epochAccounted n) = true ↔
      (n.sender = .active ∨ n.sender = .leaving) ∧
        s.roster.settled.getLsbD n.index.val = true ∧ n.epoch ≠ s.epochs.epoch ∧
        ¬ (n.epoch = s.epochs.epoch - 1 ∧ n.catchup = true) ∧
        ¬ (n.epoch = s.epochs.epoch + 1 ∧ (s.epochs.turn = .catchingUp ∨ s.epochs.newcomer = true)) := by
    simp only [State.judges, State.epochAccounted, Bool.and_eq_true, Bool.or_eq_true, beq_iff_eq, Bool.not_eq_true',
      ← Bool.not_eq_true, not_or, and_assoc, ne_eq]
  have epoch : s.membership.state.judgesSplit = true →
      (s.adoption.takesEpoch = false ↔ ∀ f e, s.adoption ≠ .yield f e) := by
    intro hj
    rw [Adoption.takesEpoch_iff]
    refine ⟨fun h f e => (h f e).2, fun h f e => ⟨fun hl => ?_, h f e⟩⟩
    rw [((s.listens_iff f e).1 hl).1] at hj
    cases hj
  simp only [State.split, Bool.and_eq_true, Bool.not_eq_true', List.any_eq_true, State.mem_validNotes, and_assoc]
  rw [← s.membership.state.judgesSplit_iff]
  refine and_congr_right fun hj => and_congr (epoch hj) ?_
  constructor
  · rintro ⟨n, ⟨slot, hn⟩, h⟩
    exact ⟨slot, n, hn, (judged n).1 (by simpa using h)⟩
  · rintro ⟨slot, n, hn, h⟩
    exact ⟨n, ⟨slot, hn⟩, by simpa using (judged n).2 h⟩

/-- A listener's fourth quiet window (R75). -/
def State.quiets (s : State) : Prop :=
  s.membership.state = .listening ∧ 3 ≤ s.membership.quiet ∧ ∀ slot n, s.outcomeOf slot ≠ .valid n

theorem State.quietAfter_of_heard {s : State} (h : ∃ slot n, s.outcomeOf slot = .valid n) :
    s.quietAfter = 0 ∧ s.foreignAfter = false := by
  have heard : s.validNotes.isEmpty = false := by
    rw [← Bool.not_eq_true, State.validNotes_isEmpty_iff]
    obtain ⟨slot, n, hn⟩ := h
    exact fun h => h slot n hn
  simp [State.quietAfter, State.foreignAfter, heard]

theorem State.quietAfter_of_quiet {s : State} (h : ∀ slot n, s.outcomeOf slot ≠ .valid n) :
    s.quietAfter = s.membership.quiet + 1 ∧
      s.foreignAfter = (s.membership.foreignHeard || s.transceiver.foreignSet != 0) := by
  have quiet := s.validNotes_isEmpty_iff.2 h
  simp [State.quietAfter, State.foreignAfter, quiet]

theorem State.quietFault_of_quiets {s : State} (h : s.quiets) :
    s.quietFault =
      some (if s.membership.foreignHeard = true ∨ s.transceiver.foreignSet ≠ 0 then .profileMismatch else .noNotes) := by
  obtain ⟨listening, count, none⟩ := h
  obtain ⟨quiet, foreign⟩ := State.quietAfter_of_quiet none
  unfold State.quietFault
  rw [quiet, foreign, if_pos ⟨listening, Nat.succ_le_succ count⟩]
  simp

theorem State.quietFault_of_not {s : State} (h : ¬ s.quiets) : s.quietFault = none := by
  refine if_neg fun ⟨listening, count⟩ => h ⟨listening, ?_⟩
  by_cases heard : ∃ slot n, s.outcomeOf slot = .valid n
  · rw [(State.quietAfter_of_heard heard).1] at count
    cases count
  · have none : ∀ slot n, s.outcomeOf slot ≠ .valid n := fun slot n hn => heard ⟨slot, n, hn⟩
    rw [(State.quietAfter_of_quiet none).1] at count
    exact ⟨Nat.le_of_succ_le_succ count, none⟩

/-- A split and a quiet window's fault exclude each other. -/
theorem State.split_of_quiets {s : State} (h : s.quiets) : s.split = false := by
  have notJudge : s.membership.state.judgesSplit = false := by rw [h.1]; rfl
  simp [State.split, notJudge]

/-- Whether foreign notes were heard up to the window end (R75). -/
def State.foreignNoted (s : State) : Prop := s.membership.foreignHeard = true ∨ s.transceiver.foreignSet ≠ 0

theorem State.endFault_iffs (s : State) :
    (s.endFault = some .epochSplit ↔ s.split = true) ∧
    (s.endFault = some .profileMismatch ↔ s.quiets ∧ s.foreignNoted) ∧
    (s.endFault = some .noNotes ↔ s.quiets ∧ ¬ s.foreignNoted) ∧
    (s.endFault = none ↔ ¬ s.split = true ∧ ¬ s.quiets) := by
  by_cases hq : s.quiets
  · have hs := State.split_of_quiets hq
    rw [State.endFault_of_not_split hs, State.quietFault_of_quiets hq, hs]
    by_cases hf : s.foreignNoted
    · rw [if_pos (by exact hf)]
      simp [hq, hf]
    · rw [if_neg (by exact hf)]
      simp [hq, hf]
  · cases hs : s.split
    · rw [State.endFault_of_not_split hs, State.quietFault_of_not hq]
      simp [hq]
    · rw [State.endFault_of_split hs]
      simp [hq]

/-! ### The detach of a window end (R91) -/

/-- A fault is found in a rig state only. -/
theorem State.inRig_of_endFault {s : State} {cause : FaultCause} (h : s.endFault = some cause) :
    s.membership.state.inRig = true := by
  rw [StationState.inRig_iff]
  have fault : s.split = true ∨ s.quiets := by
    by_contra no
    rw [not_or] at no
    rw [(s.endFault_iffs.2.2.2).2 no] at h
    cases h
  rcases fault with hs | hq
  · have states := ((s.split_iff).1 hs).1
    tauto
  · exact .inl hq.1

/-- The records of a window end that detaches (R31, R47, R91). -/
def State.faultRecords (cause : FaultCause) (s : State) : List Record :=
  (if s.transceiver.foreignSet = 0 then [] else [s.record (.foreign s.transceiver.foreignSet)]) ++
    (s.lostMembers.map fun i => s.record (.memberLost i)) ++
    match s.adoption with
    | .slip frame => if cause = .epochSplit then [] else [s.record (.slip s.barrier.frameNo frame)]
    | .none | .listening _ _ | .yield _ _ => []

theorem State.endRecords_of_fault {s : State} {cause : FaultCause} (h : s.endFault = some cause) :
    s.endRecords.flatten = s.faultRecords cause := by
  by_cases hs : s.split = true
  · obtain rfl : cause = .epochSplit := by
      rw [State.endFault_of_split hs] at h
      exact (Option.some.inj h).symm
    have noYield := ((s.split_iff).1 hs).2.1
    have judge := ((s.split_iff).1 hs).1
    unfold State.endRecords State.faultRecords
    rw [hs]
    cases ha : s.adoption with
    | yield f e => exact absurd ha (noYield f e)
    | listening f e =>
      rw [((s.listens_iff f e).1 ha).1] at judge
      simp at judge
    | _ => simp
  · have quiets : s.quiets := by
      by_contra no
      rw [(s.endFault_iffs.2.2.2).2 ⟨hs, no⟩] at h
      cases h
    have notSplit : cause ≠ .epochSplit := by
      rintro rfl
      exact hs (s.endFault_iffs.1.1 h)
    have adopts : s.adoptsEpoch = false := by
      rw [← Bool.not_eq_true, State.adoptsEpoch_iff]
      rintro ⟨-, -, slot, n, hn, -⟩
      exact quiets.2.2 slot n hn
    unfold State.endRecords State.faultRecords
    rw [Bool.not_eq_true] at hs
    rw [hs, adopts]
    cases ha : s.adoption with
    | yield f e => cases quiets.1.symm.trans ((s.yields_iff f e).1 ha).1
    | listening f e =>
      obtain ⟨slot, n, hn⟩ := ((s.listens_iff f e).1 ha).2.2.1
      exact absurd hn (quiets.2.2 slot n)
    | slip f => simp [notSplit]
    | none => simp

/-- What a window end with a fault leaves (R91). -/
structure DetachesAtEnd (cause : FaultCause) (s t : State) : Prop where
  membership : t.membership.state = .detached ∧ t.membership.fault = some cause
  barrier : t.barrier.phase = .dormant ∧ t.barrier.pulled = false ∧ t.barrier.frameNo = 0
  cleared : t.roster = {} ∧ t.resolver = {} ∧ t.cursor = {} ∧ t.epochs = {} ∧ t.sequencer = {} ∧
    (∀ c, t.generators.get c = {}) ∧ t.transceiver.windowOpen = false
  kept : t.table = s.table ∧ t.verifier = s.verifier ∧ t.port = s.port ∧ t.profile = s.profile
  log : ∃ rs : List Record, rs.Perm (s.faultRecords cause ++ s.detachRecords cause) ∧ (s.detachRecords cause).Sublist rs ∧
    t.log = rs.foldl StationLog.append s.log

theorem State.handoff_detaches {s : State} {cause : FaultCause} (h : s.endFault = some cause) :
    DetachesAtEnd cause s s.handoff := by
  obtain ⟨rs, perm, keeps, log⟩ := (s.clearRig .detached (some cause) false).logChains_order
    (s.endRecords ++ [s.detachRecords cause])
  have run : s.handoff =
      (s.clearRig .detached (some cause) false).logChains (s.endRecords ++ [s.detachRecords cause]) :=
    (State.handoff_of_fault h).trans (if_pos (State.inRig_of_endFault h))
  rw [List.flatten_append, List.flatten_singleton, State.endRecords_of_fault h] at perm
  rw [run]
  exact ⟨⟨rfl, rfl⟩, ⟨rfl, rfl, rfl⟩, ⟨rfl, rfl, rfl, rfl, rfl, get_idleGenerators, rfl⟩, ⟨rfl, rfl, rfl, rfl⟩,
    ⟨rs, perm, keeps _ (by simp), log⟩⟩

theorem DetachesAtEnd.of_lapsed {cause : FaultCause} {s t : State} {now settle lows highs : Nat} {sampled marked : Bool}
    (h : DetachesAtEnd cause (s.lapsed now settle lows highs sampled marked) t) : DetachesAtEnd cause s t := { h with }

theorem windowEnd_detaches {s : State} {cause : FaultCause} (h : s.endFault = some cause) :
    DetachesAtEnd cause s (s.advanceTo s.windowEndTick).handoff := by
  obtain ⟨settle, lows, highs, sampled, marked, e⟩ := s.advanceTo_lapsed s.windowEndTick
  rw [e]
  exact (State.handoff_detaches (s := s.lapsed (max s.now s.windowEndTick) settle lows highs sampled marked) h).of_lapsed

end Sys2Proof.Machine
end

section
/-! SUPPORT. Slips, yields and detaches at the window end (O47). -/

namespace Sys2Proof.Machine

/-! ### What a window end with an adoption leaves (R17 to R19) -/

theorem State.slip_mem_windowRecords {s : State} {f : FrameNo} (h : s.adoption = .slip f) :
    s.record (.slip s.barrier.frameNo f) ∈ s.windowRecords := by
  simp [State.windowRecords, h]

theorem State.yielded_mem_windowRecords {s : State} {f : FrameNo} {e : EpochNo} (h : s.adoption = .yield f e) :
    { body := .yielded, frame := f, epoch := e } ∈ s.windowRecords := by
  simp [State.windowRecords, h]

theorem HandsOver.logged {s t : State} (h : HandsOver s t) {r : Record} (hr : r ∈ s.windowRecords) :
    ∃ rs : List Record, r ∈ rs ∧ t.log = rs.foldl StationLog.append s.log := by
  obtain ⟨rs, perm, -, log⟩ := h.log
  exact ⟨rs, perm.mem_iff.2 hr, log⟩

/-- After an adoption the view is incomplete (R50). -/
theorem HandsOver.view_of_adoption {s t : State} (h : HandsOver s t) (ha : s.adoption ≠ .none) :
    t.roster.view = some false := by
  rw [h.roster]
  exact congrArg some (State.completeView_of_adoption ha)

theorem State.numberAfter_of_slip {s : State} {f : FrameNo} (h : s.adoption = .slip f) : s.numberAfter = f := by
  unfold State.numberAfter; rw [h]

theorem State.numberAfter_of_yield {s : State} {f : FrameNo} {e : EpochNo} (h : s.adoption = .yield f e) :
    s.numberAfter = f := by
  unfold State.numberAfter; rw [h]

theorem State.epochAfter_of_yield {s : State} {f : FrameNo} {e : EpochNo} (h : s.adoption = .yield f e) :
    s.epochAfter = e := by
  unfold State.epochAfter; rw [h]

theorem EpochUnit.settleUnready_staged (e : EpochUnit) : e.settleUnready.staged = e.staged := by
  unfold EpochUnit.settleUnready; split <;> rfl

/-- The staged mark outlives a window end. -/
theorem State.epochsAtEnd_staged (s : State) : s.epochsAtEnd.staged = s.epochs.staged := by
  change s.turnAfter.staged = s.epochs.staged
  unfold State.turnAfter
  dsimp only
  split_ifs <;> simp only [EpochUnit.settleUnready_staged]

/-- A yield clears the way for itself: no split and no quiet fault is found with it (R19, R140). -/
theorem State.endFault_of_yield {s : State} {f : FrameNo} {e : EpochNo} (h : s.adoption = .yield f e) :
    s.endFault = none := by
  refine s.endFault_iffs.2.2.2.2 ⟨fun hs => (s.split_iff.1 hs).2.1 f e h, fun hq => ?_⟩
  cases hq.1.symm.trans ((s.yields_iff f e).1 h).1

/-- A window end with a slip and without a fault, at a station that stays in the rig (R18). -/
theorem HandsOver.slips {s t : State} {f : FrameNo} (h : HandsOver s t) (ha : s.adoption = .slip f) :
    t.barrier.frameNo = f ∧ t.membership.state = s.membership.state ∧ t.roster.view = some false ∧
      (∃ rs : List Record,
        { body := .slip s.barrier.frameNo f, frame := s.barrier.frameNo, epoch := s.epochs.epoch } ∈ rs ∧
          t.log = rs.foldl StationLog.append s.log) ∧
      (s.membership.state.participant = true → s.epochs.announced = false →
        t.cursor.lookahead = some (t.choose (f + 1))) := by
  refine ⟨h.number.trans (State.numberAfter_of_slip ha), h.state, h.view_of_adoption (by rw [ha]; nofun),
    h.logged (State.slip_mem_windowRecords ha), fun participant announced => ?_⟩
  exact h.chosen (State.startsCatchUp_false (.inr (.inl announced))) participant f (.inl ha)

/-- A window end at which the founder yields (R19). -/
theorem HandsOver.yields {s t : State} {f : FrameNo} {e : EpochNo} (h : HandsOver s t) (ha : s.adoption = .yield f e) :
    t.barrier.frameNo = f ∧ t.epochs.epoch = e ∧ t.membership.state = .flushing ∧
      t.membership.founder = false ∧ t.roster.view = some false ∧ t.epochs.staged = s.epochs.staged ∧
      (∃ rs : List Record,
        { body := .yielded, frame := f, epoch := e } ∈ rs ∧ t.log = rs.foldl StationLog.append s.log) ∧
      t.cursor.lookahead = some (t.choose (f + 1)) := by
  have flushing := ((s.yields_iff f e).1 ha).1
  refine ⟨h.number.trans (State.numberAfter_of_yield ha), ?epoch, h.state.trans flushing, h.founder,
    h.view_of_adoption (by rw [ha]; nofun), ?staged, h.logged (State.yielded_mem_windowRecords ha), ?lookahead⟩
  case epoch =>
    rw [h.epochs]
    exact State.epochAfter_of_yield ha
  case staged =>
    rw [h.epochs]
    exact s.epochsAtEnd_staged
  case lookahead =>
    exact h.chosen (State.startsCatchUp_false (.inl (by rw [flushing]; nofun))) (by rw [flushing]; rfl) f (.inr ⟨e, ha⟩)

/-- Settles O47. -/
theorem windowEndSlipsYieldsOrDetaches : Obligations.WindowEndSlipsYieldsOrDetaches := by
  intro s ht hw heard chosen slips yields listens splits quiets foreign
  obtain ⟨faultSplit, faultForeign, faultNoNotes, faultNone⟩ := s.endFault_iffs
  have slipsIff : ∀ f, s.adoption = .slip f ↔ slips f := s.slips_iff
  have yieldsIff : ∀ f e, s.adoption = .yield f e ↔ yields f e := s.yields_iff
  have splitIff : s.split = true ↔ splits :=
    s.split_iff.trans (and_congr_right fun _ =>
      and_congr_left fun _ => forall₂_congr fun f e => not_congr (yieldsIff f e))
  rw [splitIff] at faultSplit faultNone
  have run := exec_windowEnd ht hw
  refine ⟨slipsIff, yieldsIff, s.listens_iff, faultSplit, faultForeign, faultNoNotes, faultNone, ?slipping, ?yielding,
    ?detaching⟩
  case slipping =>
    intro f hs noSplit noQuiet stays
    have remains : ¬ (s.lastAtEnd ∧ s.membership.state = .leaving) := fun h =>
      stays.elim (fun hp => hp h.1.1) fun hl => hl h.2
    exact ⟨_, run, ((windowEnd_handsOver (faultNone.2 ⟨noSplit, noQuiet⟩)).2.1 remains).slips ((slipsIff f).2 hs)⟩
  case yielding =>
    intro f e hy
    have ha := (yieldsIff f e).2 hy
    have remains : ¬ (s.lastAtEnd ∧ s.membership.state = .leaving) := fun h => by cases h.2.symm.trans hy.1
    exact ⟨_, run, ((windowEnd_handsOver (State.endFault_of_yield ha)).2.1 remains).yields ha⟩
  case detaching =>
    intro cause hc
    obtain ⟨⟨state, fault⟩, ⟨phase, pulled, frameNo⟩,
      ⟨roster, resolver, cursor, epochs, sequencer, generators, window⟩, ⟨table, verifier, port, -⟩, log⟩ :=
      windowEnd_detaches hc
    exact ⟨_, run, state, fault, phase, pulled, frameNo, roster, resolver, cursor, epochs, sequencer, generators, window,
      table, verifier, port, log⟩

end Sys2Proof.Machine
end

section
/-! SUPPORT. A listener's window end (O50). -/

namespace Sys2Proof.Machine

/-! ### A listener's items at a window end (R17, R18, R74, R75) -/

/-- What a listener holds as adopted after a window end (R17). -/
def State.adoptedAfter (s : State) : Option FrameNo :=
  match s.adoption with
  | .listening frame _ => some frame
  | .none | .slip _ | .yield _ _ => s.membership.adopted

theorem State.membershipAtEnd_listener {s : State} (h : s.membership.state = .listening) :
    s.membershipAtEnd.quiet = s.quietAfter ∧ s.membershipAtEnd.foreignHeard = s.foreignAfter ∧
      s.membershipAtEnd.adopted = s.adoptedAfter := by
  unfold State.membershipAtEnd
  rw [if_pos h]
  exact ⟨rfl, rfl, rfl⟩

theorem State.adoptedAfter_of_listening {s : State} {f : FrameNo} {e : EpochNo} (h : s.adoption = .listening f e) :
    s.adoptedAfter = some f ∧ s.numberAfter = f ∧ s.epochAfter = e := by
  unfold State.adoptedAfter State.numberAfter State.epochAfter
  rw [h]
  exact ⟨rfl, rfl, rfl⟩

theorem State.adoptedAfter_of_not_listening {s : State} (h : ∀ f e, s.adoption ≠ .listening f e) :
    s.adoptedAfter = s.membership.adopted := by
  unfold State.adoptedAfter
  cases ha : s.adoption with
  | listening f e => exact absurd ha (h f e)
  | none => rfl
  | slip f => rfl
  | yield f e => rfl

/-- A listener's number stays but for an adoption and a slip. -/
theorem State.numberAfter_of_listener {s : State} (hs : s.membership.state = .listening)
    (listening : ∀ f e, s.adoption ≠ .listening f e) (slip : ∀ f, s.adoption ≠ .slip f) :
    s.numberAfter = s.barrier.frameNo := by
  unfold State.numberAfter
  cases ha : s.adoption with
  | listening f e => exact absurd ha (listening f e)
  | slip f => exact absurd ha (slip f)
  | none => rfl
  | yield f e => cases hs.symm.trans ((s.yields_iff f e).1 ha).1

/-- A listener slips only once it has adopted a number (R18). -/
theorem State.adopted_of_slip {s : State} {f : FrameNo} (hs : s.membership.state = .listening)
    (h : s.adoption = .slip f) : s.membership.adopted.isSome = true := by
  have states := ((s.slips_iff f).1 h).1
  rw [hs] at states
  simpa using states

/-- What a window end leaves at a listener that goes on listening. -/
structure ListensOn (s t : State) : Prop where
  state : t.membership.state = .listening
  quiet : t.membership.quiet = s.quietAfter
  foreignHeard : t.membership.foreignHeard = s.foreignAfter
  adopted : t.membership.adopted = s.adoptedAfter
  number : t.barrier.frameNo = s.numberAfter
  epoch : t.epochs.epoch = s.epochAfter
  resolver : t.resolver = s.resolver
  kept : t.table = s.table ∧ t.verifier = s.verifier ∧ t.profile = s.profile ∧ t.port = s.port

theorem windowEnd_listensOn {s : State} (hs : s.membership.state = .listening) (hq : ¬ s.quiets) :
    ListensOn s (s.advanceTo s.windowEndTick).handoff := by
  have noJudge : s.membership.state.judgesSplit = false := by rw [hs]; rfl
  have noSplit : ¬ s.split = true := fun h => by
    have states := (s.split_iff.1 h).1
    rw [hs] at states
    simp at states
  have noLeave : ¬ (s.lastAtEnd ∧ s.membership.state = .leaving) := fun h => by cases hs.symm.trans h.2
  have h := (windowEnd_handsOver (s.endFault_iffs.2.2.2.2 ⟨noSplit, hq⟩)).2.1 noLeave
  obtain ⟨leavingFrame, membership⟩ := h.membership
  obtain ⟨quiet, foreignHeard, adopted⟩ := State.membershipAtEnd_listener hs
  refine ⟨h.state.trans hs, ?_, ?_, ?_, h.number, by rw [h.epochs]; rfl,
    h.resolver.trans (s.resolverAtEnd_keeps.1 noJudge), h.table, h.verifier, h.profile, h.port⟩
  · rw [membership]; exact quiet
  · rw [membership]; exact foreignHeard
  · rw [membership]; exact adopted

/-- A listener that holds a number keeps it as adopted, and moves it with a slip alone (R18). -/
theorem ListensOn.adopted_keeps {s t : State} (h : ListensOn s t) (hs : s.membership.state = .listening)
    (ha : s.membership.adopted.isSome = true) :
    t.membership.adopted = s.membership.adopted ∧ (∀ f, s.adoption = .slip f → t.barrier.frameNo = f) ∧
      ((∀ f, s.adoption ≠ .slip f) → t.barrier.frameNo = s.barrier.frameNo) := by
  have noAdoption : ∀ f e, s.adoption ≠ .listening f e := fun f e hl => by
    rw [((s.listens_iff f e).1 hl).2.1] at ha
    cases ha
  exact ⟨h.adopted.trans (State.adoptedAfter_of_not_listening noAdoption),
    fun f hf => h.number.trans (State.numberAfter_of_slip hf),
    fun noSlip => h.number.trans (State.numberAfter_of_listener hs noAdoption noSlip)⟩

/-- A listener without a number keeps none where its notes agree on none (R17). -/
theorem ListensOn.unadopted_keeps {s t : State} (h : ListensOn s t) (hs : s.membership.state = .listening)
    (ha : s.membership.adopted = none) (noAdoption : ∀ f e, s.adoption ≠ .listening f e) :
    t.membership.adopted = none ∧ t.barrier.frameNo = s.barrier.frameNo := by
  have noSlip : ∀ f, s.adoption ≠ .slip f := fun f hf => by
    have some := State.adopted_of_slip hs hf
    rw [ha] at some
    cases some
  exact ⟨(h.adopted.trans (State.adoptedAfter_of_not_listening noAdoption)).trans ha,
    h.number.trans (State.numberAfter_of_listener hs noAdoption noSlip)⟩

/-- Settles O50. -/
theorem listenersAdoptOrDetachAtTheWindowEnd : Obligations.ListenersAdoptOrDetachAtTheWindowEnd := by
  intro s ht hw hs
  refine ⟨_, exec_windowEnd ht hw, ?_⟩
  by_cases hq : s.quiets
  · have ⟨_, count, quiet⟩ := hq
    have fault := (State.endFault_of_not_split (State.split_of_quiets hq)).trans (State.quietFault_of_quiets hq)
    obtain ⟨⟨state, cause⟩, ⟨phase, -, -⟩, ⟨roster, resolver, -⟩, ⟨table, verifier, port, profile⟩, -⟩ :=
      windowEnd_detaches fault
    have noneHeard : ¬ ∃ slot n, s.outcomeOf slot = .valid n := fun ⟨slot, n, h⟩ => quiet slot n h
    refine ⟨fun _ h => absurd count (by omega), fun _ _ => ⟨state, phase, by rw [roster], cause⟩,
      fun h => absurd h noneHeard, fun _ _ h => absurd h noneHeard,
      fun ⟨slot, _, n, _, h, _⟩ => absurd h (quiet slot n),
      fun h => absurd h (by rintro (h | h); exacts [absurd count (by omega), noneHeard h]), ?_, table, verifier,
      profile, port⟩
    rw [if_pos state, resolver]
  · have h := windowEnd_listensOn hs hq
    obtain ⟨table, verifier, profile, port⟩ := h.kept
    refine ⟨fun quiet _ => ?quietWindow, fun quiet count => absurd ⟨hs, count, quiet⟩ hq, fun heard => ?heardWindow,
      fun f e heard agree unadopted => ?adopts, fun disagree unadopted => ?disagrees,
      fun _ => ⟨fun unadopted quiet => ?unadopted, h.adopted_keeps hs⟩, ?_, table, verifier, profile, port⟩
    case quietWindow =>
      obtain ⟨quietCount, foreignHeard⟩ := State.quietAfter_of_quiet quiet
      have noAdoption : ∀ f e, s.adoption ≠ .listening f e := fun f e ha => by
        obtain ⟨slot, n, hn⟩ := ((s.listens_iff f e).1 ha).2.2.1
        exact quiet slot n hn
      exact ⟨h.state, h.quiet.trans quietCount, h.adopted.trans (State.adoptedAfter_of_not_listening noAdoption),
        h.foreignHeard.trans foreignHeard⟩
    case heardWindow =>
      obtain ⟨quietCount, foreignHeard⟩ := State.quietAfter_of_heard heard
      exact ⟨h.state, h.quiet.trans quietCount, h.foreignHeard.trans foreignHeard⟩
    case adopts =>
      obtain ⟨adopted, number, epoch⟩ :=
        State.adoptedAfter_of_listening ((s.listens_iff f e).2 ⟨hs, unadopted, heard, agree⟩)
      exact ⟨h.adopted.trans adopted, h.number.trans number, h.epoch.trans epoch⟩
    case disagrees =>
      obtain ⟨slot, slot', n, n', hn, hn', differ⟩ := disagree
      refine h.unadopted_keeps hs unadopted fun f e ha => ?_
      have agree := ((s.listens_iff f e).1 ha).2.2.2
      obtain ⟨frame, epoch⟩ := agree slot n hn
      obtain ⟨frame', epoch'⟩ := agree slot' n' hn'
      exact differ.elim (fun ne => ne (frame.trans frame'.symm)) fun ne => ne (epoch.trans epoch'.symm)
    case unadopted =>
      refine (h.unadopted_keeps hs unadopted fun f e ha => ?_).2
      obtain ⟨slot, n, hn⟩ := ((s.listens_iff f e).1 ha).2.2.1
      exact quiet slot n hn
    rw [if_neg (by rw [h.state]; nofun), h.resolver]

end Sys2Proof.Machine
end

section
/-! SUPPORT. The slots of the note window: the end of a search span (O42), the own note and its readback, and the parting
note (O45). -/

namespace Sys2Proof.Machine

/-! ### The end of a search span (R22) -/

/-- Which slots are heard (R23, R29, R34). -/
theorem State.hears_iff (s : State) (slot : Fin 16) :
    s.hears slot = true ↔
      s.transceiver.windowOpen = true ∧ slot.val < s.prof.width ∧
        (slot ≠ s.prof.index ∨ s.membership.state = .listening) := by
  simp only [State.hears, State.hasSlot, State.isOwnSlot, Bool.and_eq_true, decide_eq_true_eq, Bool.not_eq_true',
    Bool.and_eq_false_iff, beq_eq_false_iff_ne, bne_eq_false_iff_eq, and_assoc]

theorem searchSpanEndEffect_pending {slot : Fin 16} {low : Bool} {s : State} (hh : s.hears slot = true)
    (hp : s.outcomeOf slot = .pending) :
    searchSpanEndEffect slot low s =
      (s.advanceTo (s.slotStart slot + 12)).concludeSlot slot (if low then .lineLow else .silent) := if_pos ⟨hh, hp⟩

theorem searchSpanEndEffect_settled {slot : Fin 16} {low : Bool} {s : State}
    (h : ¬ (s.hears slot = true ∧ s.outcomeOf slot = .pending)) : searchSpanEndEffect slot low s = s := if_neg h

/-- The tick at which a slot begins in a window that a mark opened (R23). -/
theorem State.slotStart_of_window {s : State} {start : Nat} (h : s.transceiver.windowStart = some start)
    (slot : Fin 16) : s.slotStart slot = start + slot.val * s.prof.slotTime := by
  rw [State.slotStart, h]; rfl

/-- Settles O42. -/
theorem searchSpanEndConcludesTheSlot : Obligations.SearchSpanEndConcludesTheSlot := by
  intro slot low s ht
  refine ⟨fun ⟨hw, hlt, hown, hp⟩ => ⟨_, State.event_next ht, ?_⟩, fun h => (State.event_next ht).trans (congrArg _ ?_)⟩
  · obtain ⟨settle, lows, highs, sampled, marked, e⟩ := s.advanceTo_lapsed (s.slotStart slot + 12)
    rw [searchSpanEndEffect_pending ((s.hears_iff slot).2 ⟨hw, hlt, hown⟩) hp, e, State.concludeSlot_frame]
    refine ⟨rfl, fun start hs => State.slotStart_of_window hs slot, State.concludeSlot_same hp,
      fun other ho => State.concludeSlot_other _ _ ho, hw, ?_⟩
    and_intros <;> rfl
  · refine searchSpanEndEffect_settled ?_
    rw [State.hears_iff]
    rintro ⟨⟨hw, hlt, hown⟩, hp⟩
    rcases h with h | h | ⟨rfl, h⟩ | h
    · rw [hw] at h; cases h
    · omega
    · exact hown.elim (fun hne => hne rfl) h
    · exact h hp

/-! ### A fault without other records (R91) -/

/-- A fault found outside the window end in a rig state clears the rig and appends its own records. -/
theorem State.detach_alone {s : State} (h : s.membership.state.inRig = true) (cause : FaultCause) :
    s.detach cause [] =
      { s.clearRig .detached (some cause) false with
        log := (s.detachRecords cause).foldl StationLog.append s.log
        choices := s.choices + (s.detachRecords cause).length } :=
  (if_pos h).trans (State.logChains_one _ _)

/-! ### The own note's readback (R33) -/

/-- When a half of a bit reads back wrong (R33). -/
theorem halfMismatch_iff (bit : Bool) (level : Bool × Bool) :
    halfMismatch bit level = true ↔ (if bit then level.1 else level.2) = false := iff_of_eq (Bool.not_eq_true' _)

/-- A note reads back wrong where one of its bits does; bits without a level count as read back well (R33). -/
theorem Note.mismatches_iff (n : Note) (levels : List (Bool × Bool)) :
    n.mismatches levels = true ↔
      ∃ (k : Nat) (bit : Bool) (level : Bool × Bool),
        (n.encode.flatMap bitsOfByte)[k]? = some bit ∧ levels[k]? = some level ∧
          (if bit then level.1 else level.2) = false := by
  simp only [Note.mismatches, List.any_eq_true, List.mem_iff_getElem?, List.getElem?_zip_eq_some, halfMismatch_iff]
  exact ⟨fun ⟨p, ⟨k, hb, hl⟩, hm⟩ => ⟨k, p.1, p.2, hb, hl, hm⟩,
    fun ⟨k, bit, level, hb, hl, hm⟩ => ⟨(bit, level), ⟨k, hb, hl⟩, hm⟩⟩

theorem Transmission.readBack_mismatch_iff (x : Transmission) (levels : List (Bool × Bool)) :
    (x.readBack levels).mismatch = true ↔
      x.mismatch = true ∨
        ∃ (k : Nat) (bit : Bool) (level : Bool × Bool),
          (x.note.encode.flatMap bitsOfByte)[k]? = some bit ∧ levels[k]? = some level ∧
            (if bit then level.1 else level.2) = false := by
  rw [← Note.mismatches_iff]
  exact Bool.or_eq_true_iff

/-- The line is free of the own note. -/
def State.sendingEnded (s : State) : State := { s with transceiver := { s.transceiver with sending := none } }

/-- A note on the line completes, and is judged or not (R27, R33). -/
theorem ownNoteCompletionEffect_sending {s : State} {x : Transmission} (h : s.transceiver.sending = some x)
    (levels : List (Bool × Bool)) :
    ownNoteCompletionEffect levels s =
      if x.judged then (s.advanceTo (x.start + x.note.ticks)).sendingEnded.judgeReadback (x.readBack levels)
      else (s.advanceTo (x.start + x.note.ticks)).sendingEnded.endUnjudged := by
  unfold ownNoteCompletionEffect
  rw [h]
  rfl

theorem State.judgeReadback_well {s : State} {x : Transmission} (h : ¬ x.mismatch = true) :
    s.judgeReadback x =
      { s.concludeSlot s.prof.index (.ownOk x.note) with
        epochs :=
          { (s.concludeSlot s.prof.index (.ownOk x.note)).epochs with
            announced :=
              (s.concludeSlot s.prof.index (.ownOk x.note)).epochs.announced || (x.note.ready && !x.note.catchup) } } :=
  if_neg h

theorem State.judgeReadback_wrong {s : State} {x : Transmission} (h : x.mismatch = true) :
    s.judgeReadback x = (s.concludeSlot s.prof.index .ownMismatch).detach .duplicateIndex [] := if_pos h

theorem State.endUnjudged_eq (s : State) :
    s.endUnjudged =
      { s with
        transceiver :=
          { s.transceiver with
            windowStart := if s.transceiver.windowOpen = true then s.transceiver.windowStart else none } } := by
  unfold State.endUnjudged
  split <;> rfl

/-- What every completion of the own note leaves (R27, R33). -/
structure EndsSending (tick : Nat) (s t : State) : Prop where
  now : t.now = max s.now tick
  sending : t.transceiver.sending = none
  table : t.table = s.table
  verifier : t.verifier = s.verifier
  port : t.port = s.port
  profile : t.profile = s.profile

/-- What a readback without a mismatch leaves (R33, R134). -/
structure JudgedWell (note : Note) (tick : Nat) (s t : State) : Prop extends EndsSending tick s t where
  own : s.outcomeOf s.prof.index = .pending → t.outcomeOf s.prof.index = .ownOk note
  others : ∀ slot, slot ≠ s.prof.index → t.outcomeOf slot = s.outcomeOf slot
  epochs : t.epochs = { s.epochs with announced := s.epochs.announced || (note.ready && !note.catchup) }
  membership : t.membership = s.membership
  roster : t.roster = s.roster
  log : t.log = s.log

theorem State.judgeReadback_judgedWell {x : Transmission} (h : ¬ x.mismatch = true) (tick : Nat) (s : State) :
    JudgedWell x.note tick s ((s.advanceTo tick).sendingEnded.judgeReadback x) := by
  obtain ⟨settle, lows, highs, sampled, marked, e⟩ := s.advanceTo_lapsed tick
  rw [State.judgeReadback_well h, e, State.concludeSlot_frame]
  exact
    { now := rfl, sending := rfl, table := rfl, verifier := rfl, port := rfl, profile := rfl
      own := fun hp => State.concludeSlot_same hp
      others := fun slot ho => State.concludeSlot_other _ _ ho
      epochs := rfl, membership := rfl, roster := rfl, log := rfl }

/-- What a fault found in a slot leaves at a rig station (R91). -/
structure DetachesInSlot (cause : FaultCause) (tick : Nat) (s t : State) : Prop extends EndsSending tick s t where
  membership : t.membership = { state := .detached, fault := some cause }
  barrier : t.barrier.phase = .dormant ∧ t.barrier.pulled = false ∧ t.barrier.frameNo = 0
  transceiver : t.transceiver = {}
  roster : t.roster = {}
  resolver : t.resolver = {}
  log : t.log = (s.detachRecords cause).foldl StationLog.append s.log

theorem State.judgeReadback_detaches {x : Transmission} (h : x.mismatch = true) (tick : Nat) {s : State}
    (hr : s.membership.state.inRig = true) :
    DetachesInSlot .duplicateIndex tick s ((s.advanceTo tick).sendingEnded.judgeReadback x) := by
  obtain ⟨settle, lows, highs, sampled, marked, e⟩ := s.advanceTo_lapsed tick
  rw [State.judgeReadback_wrong h, e, State.concludeSlot_frame, State.detach_alone (by exact hr)]
  exact
    { now := rfl, sending := rfl, table := rfl, verifier := rfl, port := rfl, profile := rfl, membership := rfl
      barrier := ⟨rfl, rfl, rfl⟩, transceiver := rfl, roster := rfl, resolver := rfl, log := rfl }

/-- Whatever was read back, nothing is sent any more; outside the rig a fault changes nothing (R92). -/
theorem State.judgeReadback_endsSending (x : Transmission) (tick : Nat) (s : State) :
    EndsSending tick s ((s.advanceTo tick).sendingEnded.judgeReadback x) := by
  by_cases h : x.mismatch = true
  · by_cases hr : s.membership.state.inRig = true
    · exact (State.judgeReadback_detaches h tick hr).toEndsSending
    · obtain ⟨settle, lows, highs, sampled, marked, e⟩ := s.advanceTo_lapsed tick
      rw [State.judgeReadback_wrong h, e, State.concludeSlot_frame, State.detach, if_neg (by exact hr)]
      exact ⟨rfl, rfl, rfl, rfl, rfl, rfl⟩
  · exact (State.judgeReadback_judgedWell h tick s).toEndsSending

/-! ### The parting note (R27) -/

theorem partingNoteSendEffect_pending {s : State} {note : Note} {start : Nat} (h : s.transceiver.parting = some note)
    (hs : s.transceiver.windowStart = some start) :
    partingNoteSendEffect s =
      { (s.advanceTo s.ownStartTick).transmit note false with
        transceiver := { ((s.advanceTo s.ownStartTick).transmit note false).transceiver with parting := none } } := by
  unfold partingNoteSendEffect
  rw [h, hs]

/-- The own transmission start in a window that a mark opened (R25). -/
theorem State.ownStartTick_of_window {s : State} {start : Nat} (h : s.transceiver.windowStart = some start) :
    s.ownStartTick = start + s.prof.index.val * s.prof.slotTime + 8 :=
  congrArg (· + 8) (State.slotStart_of_window h _)

/-- Settles O45. -/
theorem ownNoteIsJudgedAndAPartingNoteIsNot : Obligations.OwnNoteIsJudgedAndAPartingNoteIsNot := by
  intro x note start levels s ht
  refine ⟨fun hx => ⟨_, State.event_next ht, ?_⟩, fun hp hs => ⟨_, State.event_next ht, ?_⟩⟩
  · rw [ownNoteCompletionEffect_sending hx, ← Transmission.readBack_mismatch_iff]
    cases hj : x.judged
    · rw [if_neg Bool.false_ne_true, State.endUnjudged_eq]
      obtain ⟨settle, lows, highs, sampled, marked, e⟩ := s.advanceTo_lapsed (x.start + x.note.ticks)
      rw [e]
      exact ⟨rfl, rfl, ⟨nofun, nofun⟩, fun _ => ⟨rfl, rfl, rfl, rfl, rfl, rfl⟩, rfl, rfl, rfl, rfl⟩
    · rw [if_pos rfl]
      have ends := State.judgeReadback_endsSending (x.readBack levels) (x.start + x.note.ticks) s
      refine ⟨ends.now, ends.sending, ⟨fun _ hm => ?_, fun _ hm hr => ?_⟩, nofun, ends.table, ends.verifier, ends.port,
        ends.profile⟩
      · have well := State.judgeReadback_judgedWell hm (x.start + x.note.ticks) s
        exact ⟨well.own, well.others, well.epochs, well.membership, well.roster, well.log⟩
      · have h := State.judgeReadback_detaches hm (x.start + x.note.ticks) hr
        obtain ⟨phase, pulled, frameNo⟩ := h.barrier
        exact ⟨by rw [h.membership], by rw [h.membership], phase, pulled, frameNo, by rw [h.roster], by rw [h.resolver],
          h.log⟩
  · obtain ⟨settle, lows, highs, sampled, marked, e⟩ := s.advanceTo_lapsed s.ownStartTick
    rw [partingNoteSendEffect_pending hp hs, e, ← State.ownStartTick_of_window hs]
    exact ⟨rfl, rfl, rfl, rfl, hs, rfl, rfl, rfl, rfl, rfl, rfl, rfl, rfl, rfl, rfl, rfl⟩

end Sys2Proof.Machine
end

section
/-! SUPPORT. The own transmission start: the note that the station state calls for, and the claims it carries (O44). -/

namespace Sys2Proof.Machine

/-! ### Claims (R28, R56) -/

theorem Plan.mem_claims {p : Plan} {claim : Claim} :
    claim ∈ p.claims ↔
      ∃ r, (p.records.find? fun r => r.lane == some claim.lane) = some r ∧ r.priority = claim.priority := by
  simp only [Plan.claims, List.mem_filterMap, List.mem_finRange, true_and, Option.map_eq_some_iff]
  constructor
  · rintro ⟨lane, r, hr, rfl⟩
    exact ⟨r, hr, rfl⟩
  · rintro ⟨r, hr, hp⟩
    exact ⟨claim.lane, r, hr, by rw [hp]⟩

/-- A plan claims each lane that a record of it names (R28). -/
theorem Plan.claims_lane_iff (p : Plan) (lane : Fin 8) :
    (∃ priority, ({ lane, priority } : Claim) ∈ p.claims) ↔ ∃ r ∈ p.records, r.lane = some lane := by
  simp only [Plan.mem_claims]
  constructor
  · rintro ⟨-, r, hr, -⟩
    exact ⟨r, List.mem_of_find?_eq_some hr, by simpa using List.find?_some hr⟩
  · rintro ⟨r, hr, hl⟩
    have named : (p.records.find? fun r => r.lane == some lane).isSome = true :=
      List.find?_isSome.2 ⟨r, hr, by simpa using hl⟩
    obtain ⟨first, hf⟩ := Option.isSome_iff_exists.1 named
    exact ⟨first.priority, first, hf, rfl⟩

/-- A claim has its lane and priority from a record (R56). -/
theorem Plan.record_of_claim {p : Plan} {claim : Claim} (h : claim ∈ p.claims) :
    ∃ r ∈ p.records, r.lane = some claim.lane ∧ r.priority = claim.priority := by
  obtain ⟨r, hr, hp⟩ := Plan.mem_claims.1 h
  exact ⟨r, List.mem_of_find?_eq_some hr, by simpa using List.find?_some hr, hp⟩

/-- Lanes ascend in a plan's claims (R28). -/
theorem Plan.claims_ascend (p : Plan) : p.claims.Pairwise fun a b => a.lane < b.lane := by
  refine List.Pairwise.filterMap _ (fun lane lane' hlt claim hc claim' hc' => ?_) (List.pairwise_lt_finRange 8)
  obtain ⟨r, -, rfl⟩ := Option.map_eq_some_iff.1 hc
  obtain ⟨r', -, rfl⟩ := Option.map_eq_some_iff.1 hc'
  exact hlt

theorem State.lookaheadClaims_of_apply {s : State} {e : Fin 64} {p : Plan} (h : s.cursor.lookahead = some (.apply e))
    (hp : s.plan? e = some p) : s.lookaheadClaims = p.claims := by
  unfold State.lookaheadClaims
  simp only [h, hp, Option.map_some, Option.getD_some]

/-- A lookahead that applies no plan claims nothing (R28). -/
theorem State.lookaheadClaims_of_no_plan {s : State}
    (h : ∀ e p, s.cursor.lookahead = some (.apply e) → s.plan? e ≠ some p) : s.lookaheadClaims = [] := by
  unfold State.lookaheadClaims
  split
  · next e he =>
    have none : s.plan? e = none := Option.eq_none_iff_forall_ne_some.2 fun p => h e p he
    rw [none]; rfl
  all_goals rfl

theorem State.lookaheadClaims_ascend (s : State) : s.lookaheadClaims.Pairwise fun a b => a.lane < b.lane := by
  by_cases h : ∃ e p, s.cursor.lookahead = some (.apply e) ∧ s.plan? e = some p
  · obtain ⟨e, p, he, hp⟩ := h
    rw [State.lookaheadClaims_of_apply he hp]
    exact p.claims_ascend
  · rw [State.lookaheadClaims_of_no_plan fun e p he hp => h ⟨e, p, he, hp⟩]
    exact .nil

/-! ### The transmission start (R25, R26) -/

/-- The state at the own transmission start, the slot marked as passed (R25). -/
def State.atOwnStart (s : State) : State := (s.advanceTo s.ownStartTick).passOwnSlot

/-- The wait for the own start changes nothing that a note carries. -/
theorem State.transmitImage_atOwnStart (s : State) (kind : NoteKind) (sender : SenderState) :
    s.atOwnStart.transmitImage kind sender = s.transmitImage kind sender := by
  obtain ⟨settle, lows, highs, sampled, marked, e⟩ := s.advanceTo_lapsed s.ownStartTick
  rw [State.atOwnStart, e]
  rfl

theorem ownTransmissionStartEffect_sends {s : State} (hw : s.transceiver.windowOpen = true)
    (hp : s.transceiver.ownPassed = false) {kind : NoteKind} {sender : SenderState}
    (h : s.noteToSend = some (kind, sender)) :
    ownTransmissionStartEffect s = s.atOwnStart.becomeJoining.transmit (s.transmitImage kind sender) true := by
  have same : s.atOwnStart.noteToSend = some (kind, sender) := h
  unfold ownTransmissionStartEffect
  rw [if_pos ⟨hw, hp⟩, ← s.transmitImage_atOwnStart kind sender, ← State.atOwnStart]
  simp only [same]

theorem ownTransmissionStartEffect_silent {s : State} (hw : s.transceiver.windowOpen = true)
    (hp : s.transceiver.ownPassed = false) (h : s.noteToSend = none) :
    ownTransmissionStartEffect s = s.atOwnStart.concludeSlot s.prof.index .notSent := by
  have same : s.atOwnStart.noteToSend = none := h
  unfold ownTransmissionStartEffect
  rw [if_pos ⟨hw, hp⟩, ← State.atOwnStart]
  simp only [same]
  rfl

/-- A station in another state than LISTENING sends and stays what it is. -/
theorem State.becomeJoining_other {s : State} (h : s.membership.state ≠ .listening) : s.becomeJoining = s := if_neg h

theorem State.becomeJoining_listening {s : State} (h : s.membership.state = .listening) :
    s.becomeJoining = { s with membership := { s.membership with state := .joining, adopted := none } } := if_pos h

/-- What the own transmission start leaves, whatever the station sends (R25). -/
structure StartsOwn (s t : State) : Prop where
  now : t.now = max s.now s.ownStartTick
  passed : t.transceiver.ownPassed = true
  others : ∀ slot, slot ≠ s.prof.index → t.outcomeOf slot = s.outcomeOf slot
  windowOpen : t.transceiver.windowOpen = s.transceiver.windowOpen
  barrier : t.barrier.frameNo = s.barrier.frameNo ∧ t.barrier.phase = s.barrier.phase
  roster : t.roster = s.roster
  resolver : t.resolver = s.resolver
  table : t.table = s.table
  verifier : t.verifier = s.verifier
  cursor : t.cursor = s.cursor
  epochs : t.epochs = s.epochs
  sequencer : t.sequencer = s.sequencer
  generators : t.generators = s.generators
  log : t.log = s.log
  port : t.port = s.port

theorem ownTransmissionStart_startsOwn {s : State} (hw : s.transceiver.windowOpen = true)
    (hp : s.transceiver.ownPassed = false) : StartsOwn s (ownTransmissionStartEffect s) := by
  obtain ⟨settle, lows, highs, sampled, marked, e⟩ := s.advanceTo_lapsed s.ownStartTick
  cases h : s.noteToSend with
  | none =>
    rw [ownTransmissionStartEffect_silent hw hp h, State.concludeSlot_frame, State.atOwnStart, e]
    exact ⟨rfl, rfl, fun slot ho => State.concludeSlot_other _ _ ho, rfl, ⟨rfl, rfl⟩, rfl, rfl, rfl, rfl, rfl, rfl, rfl,
      rfl, rfl, rfl⟩
  | some note =>
    rw [ownTransmissionStartEffect_sends hw hp h, State.atOwnStart, e]
    by_cases hl : s.membership.state = .listening
    · rw [State.becomeJoining_listening (by exact hl)]
      exact ⟨rfl, rfl, fun _ _ => rfl, rfl, ⟨rfl, rfl⟩, rfl, rfl, rfl, rfl, rfl, rfl, rfl, rfl, rfl, rfl⟩
    · rw [State.becomeJoining_other (by exact hl)]
      exact ⟨rfl, rfl, fun _ _ => rfl, rfl, ⟨rfl, rfl⟩, rfl, rfl, rfl, rfl, rfl, rfl, rfl, rfl, rfl, rfl⟩

/-- The station has put a note on the line at this tick, its readback to be judged (R26). -/
structure Sends (note : Note) (t : State) : Prop where
  sending : t.transceiver.sending = some { note, start := t.now, judged := true }
  image : t.transceiver.image = some note

theorem ownTransmissionStart_sends {s : State} (hw : s.transceiver.windowOpen = true)
    (hp : s.transceiver.ownPassed = false) {kind : NoteKind} {sender : SenderState}
    (h : s.noteToSend = some (kind, sender)) :
    Sends (s.transmitImage kind sender) (ownTransmissionStartEffect s) := by
  rw [ownTransmissionStartEffect_sends hw hp h]
  exact ⟨rfl, rfl⟩

theorem ownTransmissionStart_membership {s : State} (hw : s.transceiver.windowOpen = true)
    (hp : s.transceiver.ownPassed = false) (hl : s.membership.state ≠ .listening) :
    (ownTransmissionStartEffect s).membership = s.membership := by
  cases h : s.noteToSend with
  | none => rw [ownTransmissionStartEffect_silent hw hp h, State.concludeSlot_frame]; rfl
  | some note => rw [ownTransmissionStartEffect_sends hw hp h, State.becomeJoining_other (by exact hl)]; rfl

/-- The claims of a note that carries the station's flags (R28, R134). -/
theorem State.claimsFor_flagged (s : State) {kind : NoteKind} (h : kind = .status ∨ kind = .found) :
    s.claimsFor kind = if s.epochs.turn = .catchingUp then [] else s.lookaheadClaims := by
  have claims : s.claimsFor kind = if s.catchesUp then [] else s.lookaheadClaims := by
    rcases h with rfl | rfl <;> rfl
  simp only [claims, State.catchesUp, beq_iff_eq]

/-- STATUS and FOUND carry both flags and the claims (R28, R134). -/
theorem State.transmitImage_flagged (s : State) {kind : NoteKind} (h : kind = .status ∨ kind = .found)
    (sender : SenderState) :
    s.transmitImage kind sender =
      { index := s.prof.index, kind, sender, ready := s.epochs.ready.isSome, catchup := s.epochs.turn == .catchingUp
        frame := s.barrier.frameNo, epoch := s.epochs.epoch, digest := s.digest
        claims := if s.epochs.turn = .catchingUp then [] else s.lookaheadClaims } := by
  rw [← s.claimsFor_flagged h]
  rcases h with rfl | rfl <;> rfl

/-- Settles O44. -/
theorem ownNoteGoesOutAtItsStart : Obligations.OwnNoteGoesOutAtItsStart := by
  intro s ht hw hp
  have starts := ownTransmissionStart_startsOwn hw hp
  have sends {kind : NoteKind} {sender : SenderState} (h : s.noteToSend = some (kind, sender)) :=
    ownTransmissionStart_sends hw hp h
  have flagged {kind : NoteKind} (hk : kind = .status ∨ kind = .found) {sender : SenderState}
      (h : s.noteToSend = some (kind, sender)) := s.transmitImage_flagged hk sender ▸ sends h
  have stays := ownTransmissionStart_membership hw hp
  refine ⟨_, State.event_next ht, starts.now, fun start => State.ownStartTick_of_window, starts.passed,
    ⟨fun ha => ?active, fun hf hn => ?flushing, fun hf hn => ?founder, fun hl => ?leaving, fun hl ha => ?joins,
      fun hl ha => ?silent⟩,
    starts.others, starts.windowOpen.trans hw, starts.barrier.1, starts.barrier.2, starts.roster, starts.resolver,
    starts.table, starts.verifier, starts.cursor, starts.epochs, starts.sequencer, starts.generators, starts.log,
    starts.port, fun e p he hp => ?claims, State.lookaheadClaims_of_no_plan, s.lookaheadClaims_ascend⟩
  case active =>
    have n := flagged (.inl rfl) (by rw [State.noteToSend, ha] : s.noteToSend = some (.status, .active))
    exact ⟨⟨n.sending, n.image⟩, stays (by rw [ha]; nofun)⟩
  case flushing =>
    have n := flagged (.inl rfl) (by simp [State.noteToSend, hf, hn] : s.noteToSend = some (.status, .flushing))
    exact ⟨⟨n.sending, n.image⟩, stays (by rw [hf]; nofun)⟩
  case founder =>
    have n := flagged (.inr rfl) (by simp [State.noteToSend, hf, hn] : s.noteToSend = some (.found, .founding))
    exact ⟨⟨n.sending, n.image⟩, stays (by rw [hf]; nofun)⟩
  case leaving =>
    have n := sends (by rw [State.noteToSend, hl] : s.noteToSend = some (.leave, .leaving))
    exact ⟨⟨n.sending, n.image⟩, stays (by rw [hl]; nofun)⟩
  case joins =>
    have note : s.noteToSend = some (.join, .joining) := by simp [State.noteToSend, hl, ha]
    have n := sends note
    refine ⟨⟨n.sending, n.image⟩, ?_⟩
    rw [ownTransmissionStartEffect_sends hw hp note, State.becomeJoining_listening (by exact hl)]
    rfl
  case silent =>
    have note : s.noteToSend = none := by simp [State.noteToSend, hl, ha]
    rw [ownTransmissionStartEffect_silent hw hp note]
    refine ⟨?_, ?_, fun hpend => State.concludeSlot_same hpend⟩ <;> rw [State.concludeSlot_frame] <;> rfl
  case claims =>
    rw [State.lookaheadClaims_of_apply he hp]
    exact ⟨p.claims_lane_iff, fun claim => Plan.record_of_claim⟩

end Sys2Proof.Machine
end

section
/-! SUPPORT. The early close: a mark that finds a window open makes the handoff of the list it cuts, and then acts on the
state after it (O36). -/

namespace Sys2Proof.Machine

/-! ### The handoff and the samples of FRAME -/

/-- A state at another tick, with other levels and another mark history of FRAME. -/
def State.restamped (now : Nat) (frameIn : Bool) (lows highs : Nat) (sampled marked : Bool) (s : State) : State :=
  { s with now, frameIn, barrier := { s.barrier with lows, highs, sampled, marked } }

section
variable (now : Nat) (frameIn : Bool) (lows highs : Nat) (sampled marked : Bool)

/-- The cursor's part of the handoff reads neither the clock nor the samples of FRAME (R128, R137). -/
theorem State.cursorAtEnd_restamped (u s : State) :
    (u.restamped now frameIn lows highs sampled marked).cursorAtEnd (s.restamped now frameIn lows highs sampled marked) =
      (u.cursorAtEnd s).restamped now frameIn lows highs sampled marked := by
  have catchUp : (s.restamped now frameIn lows highs sampled marked).startsCatchUp = s.startsCatchUp := rfl
  have adoption : (s.restamped now frameIn lows highs sampled marked).adoption = s.adoption := rfl
  have state : (u.restamped now frameIn lows highs sampled marked).membership = u.membership := rfl
  unfold State.cursorAtEnd
  rw [catchUp, adoption, state]
  split
  · rfl
  · split
    · split <;> rfl
    · split <;> rfl
    all_goals rfl

/-- The blocks after a handoff without a fault, and then the cursor's part (R37, R128). -/
theorem State.afterHandoff_eq (s : State) :
    s.afterHandoff = (s.closed s.cursor.lookahead s.membershipAtEnd.leavingFrame).cursorAtEnd s := rfl

/-- The handoff reads neither the clock nor the samples of FRAME, and leaves them (R37). -/
theorem State.handoff_restamped {s : State} (hb : s.barrier.phase ≠ .holding) :
    (s.restamped now frameIn lows highs sampled marked).handoff =
      s.handoff.restamped now frameIn lows highs sampled marked := by
  have fault : (s.restamped now frameIn lows highs sampled marked).endFault = s.endFault := rfl
  cases hf : s.endFault with
  | some cause =>
    have rig := State.inRig_of_endFault hf
    rw [State.handoff_of_fault (fault.trans hf), State.handoff_of_fault hf, State.detach, State.detach,
      if_pos (by exact rig), if_pos rig]
    rfl
  | none =>
    have blocks : (s.restamped now frameIn lows highs sampled marked).afterHandoff =
        s.afterHandoff.restamped now frameIn lows highs sampled marked := by
      rw [State.afterHandoff_eq, State.afterHandoff_eq]
      exact State.cursorAtEnd_restamped now frameIn lows highs sampled marked
        (s.closed s.cursor.lookahead s.membershipAtEnd.leavingFrame) s
    have notLast : ¬ s.afterHandoff.barrier.last := by
      obtain ⟨look, leavingFrame, h⟩ := s.closesWith
      rw [h.eq, State.closed_last_iff]
      exact fun h => hb h.1
    rw [State.handoff_of_none (fault.trans hf), State.handoff_of_none hf, blocks,
      State.finish_of_not_last (by exact notLast), State.finish_of_not_last notLast]
    rfl

end

/-- The clock and the samples of FRAME stand over a handoff. -/
theorem State.handoff_keeps_stamp {s : State} (hb : s.barrier.phase ≠ .holding) :
    s.handoff =
      s.handoff.restamped s.now s.frameIn s.barrier.lows s.barrier.highs s.barrier.sampled s.barrier.marked :=
  State.handoff_restamped s.now s.frameIn s.barrier.lows s.barrier.highs s.barrier.sampled s.barrier.marked hb

/-- The handoff made at another tick. -/
theorem State.handoff_at {s : State} (hb : s.barrier.phase ≠ .holding) (late : Nat) :
    ({ s with now := late } : State).handoff = { s.handoff with now := late } := by
  have other := State.handoff_restamped late s.frameIn s.barrier.lows s.barrier.highs s.barrier.sampled
    s.barrier.marked hb
  refine other.trans ?_
  conv_rhs => rw [State.handoff_keeps_stamp hb]
  rfl

/-- The handoff of a station that takes a mark meanwhile (R2, R24). -/
theorem State.handoff_rising {s : State} (hb : s.barrier.phase ≠ .holding) : s.rising.handoff = s.handoff.rising := by
  refine (State.handoff_restamped s.now true 0 0 true true hb).trans ?_
  conv_rhs => rw [State.handoff_keeps_stamp hb]
  rfl

/-- What a handoff leaves of the barrier unit's lines, the window and the blocks beside the rig's. -/
structure ClosesWindow (s t : State) : Prop where
  ticking : t.ticking = s.ticking
  canMark : s.canMark = true → t.canMark = true
  windowOpen : t.transceiver.windowOpen = false
  table : t.table = s.table
  port : t.port = s.port

theorem State.handoff_closesWindow {s : State} (hb : s.barrier.phase ≠ .holding) : ClosesWindow s s.handoff := by
  cases hf : s.endFault with
  | some cause =>
    rw [State.handoff_of_fault hf, State.detach, if_pos (State.inRig_of_endFault hf)]
    exact ⟨rfl, fun _ => rfl, rfl, rfl, rfl⟩
  | none =>
    obtain ⟨look, leavingFrame, h⟩ := s.closesWith
    have notLast : ¬ (s.closed look leavingFrame).barrier.last := by
      rw [State.closed_last_iff]
      exact fun h => hb h.1
    rw [State.handoff_of_none hf, h.eq, State.finish_of_not_last notLast]
    exact ⟨rfl, fun hm => hm, rfl, rfl, rfl⟩

/-- A rise of FRAME is still to be acted on after a handoff (R24). -/
theorem State.handoff_risesNow {s : State} (hb : s.barrier.phase ≠ .holding) (hr : s.risesNow = true) :
    s.handoff.risesNow = true := by
  have stamp := State.handoff_keeps_stamp hb
  obtain ⟨sampled, lows, highs, pulled, pullDue⟩ := s.risesNow_iff.1 hr
  obtain ⟨pulled', pullDue'⟩ :=
    (s.handoff.canMark_iff).1 ((State.handoff_closesWindow hb).canMark (s.canMark_iff.2 ⟨pulled, pullDue⟩))
  rw [State.risesNow_iff]
  refine ⟨?_, ?_, ?_, pulled', pullDue'⟩ <;> rw [stamp]
  exacts [sampled, lows, highs]

/-! ### The early close (R24) -/

/-- The window cut by a mark, its list completed (R24). -/
def State.windowCut (s : State) : State :=
  { s with transceiver := s.transceiver.cutWindow s.prof.width s.prof.index }

theorem State.closeEarly_open {s : State} (h : s.transceiver.windowOpen = true) : s.closeEarly = s.windowCut.handoff :=
  if_pos h

/-- A mark in an open window acts on the state after the handoff of the list it cuts (R24). -/
theorem exec_frameMark_open {s : State} (ht : s.ticking = true) (hr : s.risesNow = true)
    (hw : s.transceiver.windowOpen = true) (hb : s.barrier.phase ≠ .holding) :
    exec .frameMark s = exec .frameMark s.windowCut.handoff := by
  have closes : ClosesWindow s.windowCut s.windowCut.handoff := State.handoff_closesWindow hb
  have same : s.rising.windowCut = s.windowCut.rising := rfl
  have cut : s.rising.closeEarly = s.windowCut.handoff.rising := by
    rw [State.closeEarly_open (s := s.rising) hw, same, State.handoff_rising (s := s.windowCut) hb]
  rw [exec_frameMark ht, frameMarkEffect_rise hr, cut,
    exec_frameMark_rise (closes.ticking.trans ht) (State.handoff_risesNow (s := s.windowCut) hb hr) closes.windowOpen]

/-- From the window's end on WINDOW_END makes the handoff at the tick that stands (R37). -/
theorem exec_windowEnd_past {s : State} (ht : s.ticking = true) (hw : s.transceiver.windowOpen = true)
    (hp : s.windowEndTick ≤ s.now) (hs : s.timebase.settle ≤ 2000) : exec .windowEnd s = .next s.handoff := by
  rw [exec_windowEnd ht hw, State.advanceTo_past hp hs]

/-- An early close leaves the view incomplete (R50). -/
theorem State.windowCut_view (s : State) : s.windowCut.completeView = false := by
  rw [← Bool.not_eq_true, State.completeView_iff]
  rintro ⟨-, -, -, early, -⟩
  cases early

/-- Settles O36. -/
theorem markClosesAnOpenWindowFirst : Obligations.MarkClosesAnOpenWindowFirst := by
  intro s ht hr hw hb cut closed
  have hc : cut.barrier.phase ≠ .holding := hb
  have closes : ClosesWindow cut closed := State.handoff_closesWindow hc
  have noLeave : ¬ (cut.lastAtEnd ∧ cut.membership.state = .leaving) := fun h => hc h.1.1
  refine ⟨exec_frameMark_open ht hr hw hb, State.handoff_risesNow hc hr, closes.ticking.trans ht, closes.windowOpen, ?now,
      closes.table, closes.port, exec_windowEnd_past (s := cut) ht hw, fun start late hstart hlate hsettle => ?late,
    fun cause hf => ?fault, fun hf => ?clean⟩
  case now =>
    change cut.handoff.now = cut.now
    rw [State.handoff_keeps_stamp hc]; rfl
  case late =>
    rw [← State.handoff_at hc]
    refine exec_windowEnd_past (s := { cut with now := late }) ht hw ?_ hsettle
    rw [State.windowEndTick, show ({ cut with now := late } : State).transceiver.windowStart = some start from hstart]
    exact hlate
  case fault =>
    obtain ⟨⟨state, cause'⟩, ⟨phase, -, frameNo⟩, ⟨roster, resolver, cursor, epochs, -⟩, -, -⟩ :=
      State.handoff_detaches hf
    exact ⟨state, cause', phase, frameNo, roster, resolver, cursor, epochs⟩
  case clean =>
    have h : HandsOver cut closed := (State.handoff_handsOver hf noLeave).1
    obtain ⟨rs, perm, -, log⟩ := h.log
    have view : cut.completeView = false := s.windowCut_view
    refine ⟨h.state, (h.kept fun hl => hc hl.1).1, h.number, by rw [h.roster, view]; rfl, by rw [h.transceiver]; rfl,
      by rw [h.transceiver]; rfl, fun hj => ?_, rs, ?_, log⟩
    · obtain ⟨g, table, -, complete, -⟩ := State.resolverAtEnd_table (s := cut) hj
      exact ⟨g, by rw [h.resolver]; exact table, complete.trans view⟩
    · rw [State.endRecords_flatten (cut.endFault_none_iff.1 hf).1]
      exact perm

end Sys2Proof.Machine
end

section
/-! SUPPORT. Notes on the line: from the symbols of a note back to its bytes, and how long a reception takes (R21, R22,
R29). -/

namespace Sys2Proof.Machine

/-! ### Symbols and bits (R21, R22) -/

/-- What may follow the bits heard: nothing more, or a symbol that is none of a bit's (R22). -/
def Broken (tail : List (Bool × Bool)) : Prop := tail = [] ∨ ∃ half rest, tail = (half, half) :: rest

theorem Broken.take_one {tail : List (Bool × Bool)} (h : Broken tail) : Broken (tail.take 1) := by
  rcases h with rfl | ⟨half, rest, rfl⟩
  · exact .inl rfl
  · exact .inr ⟨half, [], rfl⟩

theorem Broken.length_take_one (tail : List (Bool × Bool)) : (tail.take 1).length = if tail = [] then 0 else 1 := by
  cases tail <;> rfl

/-- The bits heard are those ahead of the first symbol that is none of a bit's (R22). -/
theorem bitsOfSymbols_heard (heard : List Bool) {tail : List (Bool × Bool)} (h : Broken tail) :
    bitsOfSymbols (heard.map symbolOfBit ++ tail) = heard := by
  induction heard with
  | nil =>
    rcases h with rfl | ⟨half, rest, rfl⟩
    · rfl
    · cases half <;> rfl
  | cons bit heard ih => cases bit <;> exact congrArg _ ih

theorem bitsOfSymbols_map (heard : List Bool) : bitsOfSymbols (heard.map symbolOfBit) = heard := by
  have h := bitsOfSymbols_heard heard (.inl rfl)
  rwa [List.append_nil] at h

/-! ### Bits and bytes -/

/-- The eight bits of a byte spell it. -/
theorem byteOfBits_bitsOfByte : ∀ b : Byte, byteOfBits (bitsOfByte b) = b := by decide +kernel

/-- A byte is the number that its bits spell, most significant first. -/
theorem foldl_bitsOfByte : ∀ b : Byte, (bitsOfByte b).foldl (fun v bit => 2 * v + bit.toNat) 0 = b.toNat := by
  decide +kernel

/-- Any eight bits are those of a byte. -/
theorem exists_bitsOfByte : ∀ bits : List Bool, bits.length = 8 → ∃ b, bitsOfByte b = bits
  | [a, b, c, d, e, f, g, h], _ => by
    have every : ∀ a b c d e f g h : Bool,
        bitsOfByte (byteOfBits [a, b, c, d, e, f, g, h]) = [a, b, c, d, e, f, g, h] := by decide +kernel
    exact ⟨_, every a b c d e f g h⟩

/-- Bits that fall short of a byte spell none. -/
theorem bytesOfBits_short {bits : List Bool} (h : bits.length < 8) : bytesOfBits bits = [] := by
  unfold bytesOfBits
  split
  · simp only [List.length_cons] at h
    omega
  · rfl

/-- The bits of whole bytes, and what is left of the last part of one (R22). -/
theorem bytesOfBits_append (bytes : List Byte) {rest : List Bool} (h : rest.length < 8) :
    bytesOfBits (bytes.flatMap bitsOfByte ++ rest) = bytes := by
  induction bytes with
  | nil => exact bytesOfBits_short h
  | cons b bytes ih => exact congrArg₂ List.cons (byteOfBits_bitsOfByte b) ih

theorem bytesOfBits_flatMap (bytes : List Byte) : bytesOfBits (bytes.flatMap bitsOfByte) = bytes := by
  have h := bytesOfBits_append bytes (rest := []) (by decide)
  rwa [List.append_nil] at h

theorem length_flatMap_bitsOfByte (bytes : List Byte) : (bytes.flatMap bitsOfByte).length = 8 * bytes.length := by
  induction bytes with
  | nil => rfl
  | cons b rest ih =>
    have eight : (bitsOfByte b).length = 8 := rfl
    rw [List.flatMap_cons, List.length_append, ih, eight, List.length_cons]
    omega

/-- Bits are those of whole bytes and less than a byte more. -/
theorem exists_bytes (bits : List Bool) :
    ∃ (bytes : List Byte) (rest : List Bool), rest.length < 8 ∧ bits = bytes.flatMap bitsOfByte ++ rest := by
  rcases Nat.lt_or_ge bits.length 8 with h | h
  · exact ⟨[], bits, h, rfl⟩
  · obtain ⟨b, hb⟩ := exists_bitsOfByte (bits.take 8) (by simp [h])
    obtain ⟨bytes, rest, hr, e⟩ := exists_bytes (bits.drop 8)
    refine ⟨b :: bytes, rest, hr, ?_⟩
    rw [List.flatMap_cons, List.append_assoc, ← e, hb, List.take_append_drop]
termination_by bits.length
decreasing_by simp only [List.length_drop]; omega

theorem length_bytesOfBits (bits : List Bool) : (bytesOfBits bits).length = bits.length / 8 := by
  obtain ⟨bytes, rest, hr, rfl⟩ := exists_bytes bits
  rw [bytesOfBits_append bytes hr, List.length_append, length_flatMap_bitsOfByte]
  omega

/-- The eight bits of byte `k`. -/
theorem bits_of_byte {bytes : List Byte} {k : Nat} (h : k < bytes.length) (rest : List Bool) :
    ((bytes.flatMap bitsOfByte ++ rest).drop (8 * k)).take 8 = bitsOfByte bytes[k] := by
  have before : ((bytes.take k).flatMap bitsOfByte).length = 8 * k := by
    rw [length_flatMap_bitsOfByte, List.length_take]; omega
  have split : bytes.flatMap bitsOfByte =
      (bytes.take k).flatMap bitsOfByte ++ (bitsOfByte bytes[k] ++ (bytes.drop (k + 1)).flatMap bitsOfByte) := by
    rw [← List.flatMap_cons, List.getElem_cons_drop, ← List.flatMap_append, List.take_append_drop]
  rw [split, List.append_assoc, List.drop_left' before]
  rfl

/-- Byte `k` is the number that its eight bits spell. -/
theorem byteAt_bytesOfBits {bits : List Bool} {k : Nat} (h : 8 * (k + 1) ≤ bits.length) :
    byteAt (bytesOfBits bits) k = ((bits.drop (8 * k)).take 8).foldl (fun v bit => 2 * v + bit.toNat) 0 := by
  obtain ⟨bytes, rest, hr, rfl⟩ := exists_bytes bits
  rw [List.length_append, length_flatMap_bitsOfByte] at h
  have whole : k < bytes.length := by omega
  rw [bytesOfBits_append bytes hr, bits_of_byte whole, foldl_bitsOfByte, byteAt, List.getD_eq_getElem _ _ whole]

/-! ### How long a reception takes (R22, R29) -/

/-- The claim count that stands in the bits heard (11.7). -/
def claimCount (bits : List Bool) : Nat := byteAt (bytesOfBits bits) 11

theorem claimCount_eq {bits : List Bool} (h : 96 ≤ bits.length) :
    claimCount bits = ((bits.drop 88).take 8).foldl (fun v bit => 2 * v + bit.toNat) 0 := byteAt_bytesOfBits h

/-- The count stands in the first twelve bytes. -/
theorem claimCount_take {bits : List Bool} (h : 96 ≤ bits.length) : claimCount (bits.take 96) = claimCount bits := by
  rw [claimCount_eq h, claimCount_eq (by rw [List.length_take]; omega), List.drop_take, List.take_take]
  rfl

section
variable {heard : List Bool} {tail : List (Bool × Bool)}

/-- A claim count above 4 ends the reception at the count's last bit (R29). -/
theorem receptionTicks_excess (ht : Broken tail) (hl : 96 ≤ heard.length) (hc : 4 < claimCount heard) :
    receptionTicks (heard.map symbolOfBit ++ tail) = 96 := by
  unfold receptionTicks
  rw [bitsOfSymbols_heard heard ht]
  exact if_pos ⟨hl, hc⟩

/-- A whole note ends the reception at its last bit (R29). -/
theorem receptionTicks_whole (ht : Broken tail) (hl : 8 * (14 + claimCount heard) ≤ heard.length)
    (hc : claimCount heard ≤ 4) :
    receptionTicks (heard.map symbolOfBit ++ tail) = 8 * (14 + claimCount heard) := by
  unfold receptionTicks
  rw [bitsOfSymbols_heard heard ht]
  exact (if_neg fun h => absurd h.2 (by exact hc.not_gt)).trans (if_pos ⟨by omega, hl⟩)

/-- The bits heard end before the note does (R22). -/
def EndsShort (heard : List Bool) : Prop :=
  heard.length < 96 ∨ (claimCount heard ≤ 4 ∧ heard.length < 8 * (14 + claimCount heard))

/-- A symbol that is none of a bit's, or no symbol at all, ends the reception there (R22). -/
theorem receptionTicks_short (ht : Broken tail) (hs : EndsShort heard) :
    receptionTicks (heard.map symbolOfBit ++ tail) = heard.length + if tail = [] then 0 else 1 := by
  have notExcess : ¬ (96 ≤ heard.length ∧ 4 < claimCount heard) := by
    rintro ⟨h, hc⟩
    rcases hs with hs | ⟨hs, -⟩ <;> omega
  have notWhole : ¬ (96 ≤ heard.length ∧ 8 * (14 + claimCount heard) ≤ heard.length) := by
    rintro ⟨h, hc⟩
    rcases hs with hs | ⟨-, hs⟩ <;> omega
  unfold receptionTicks
  rw [bitsOfSymbols_heard heard ht]
  refine (if_neg (by exact notExcess)).trans ((if_neg (by exact notWhole)).trans ?_)
  rw [← Broken.length_take_one, List.length_take, List.length_append, List.length_map]
  omega

theorem receivedBytes_excess (ht : Broken tail) (hl : 96 ≤ heard.length) (hc : 4 < claimCount heard) :
    receivedBytes (heard.map symbolOfBit ++ tail) = bytesOfBits (heard.take 96) := by
  unfold receivedBytes
  rw [receptionTicks_excess ht hl hc, List.take_append_of_le_length (by rw [List.length_map]; exact hl), ← List.map_take,
    bitsOfSymbols_map]

theorem receivedBytes_short (ht : Broken tail) (hs : EndsShort heard) :
    receivedBytes (heard.map symbolOfBit ++ tail) = bytesOfBits heard := by
  have all : (heard.map symbolOfBit ++ tail).take (receptionTicks (heard.map symbolOfBit ++ tail)) =
      heard.map symbolOfBit ++ tail.take 1 := by
    rw [receptionTicks_short ht hs, ← List.length_map symbolOfBit, List.take_length_add_append]
    cases tail <;> rfl
  unfold receivedBytes
  rw [all, bitsOfSymbols_heard heard ht.take_one]

end

end Sys2Proof.Machine
end

section
/-! SUPPORT. What the bytes heard in a slot classify as, check by check, and the note that they spell (R30, R31, R180). -/

namespace Sys2Proof.Machine

/-! ### Bytes and numbers -/

theorem byteAt_lt (l : List Byte) (i : Nat) : byteAt l i < 256 := (l.getD i 0).isLt

theorem pairAt_lt (l : List Byte) (i : Nat) : pairAt l i < 65536 := by
  have high := byteAt_lt l i
  have low := byteAt_lt l (i + 1)
  unfold pairAt
  omega

theorem quadAt_lt (l : List Byte) (i : Nat) : quadAt l i < 4294967296 := by
  have high := pairAt_lt l i
  have low := pairAt_lt l (i + 2)
  unfold quadAt
  omega

/-- A 16-bit field is the number of its two bytes. -/
theorem eq_ofNat_pairAt_iff (c : Crc) (l : List Byte) (i : Nat) :
    c = BitVec.ofNat 16 (pairAt l i) ↔ c.toNat = pairAt l i := by
  rw [← BitVec.toNat_inj, BitVec.toNat_ofNat, Nat.mod_eq_of_lt (pairAt_lt l i)]

/-- A flag of an image, read from its byte's number. -/
theorem bitAt_iff (l : List Byte) (n i : Nat) : bitAt l n i = true ↔ byteAt l n / 2 ^ i % 2 = 1 := by
  rw [bitAt, BitVec.getLsbD, Nat.testBit_eq_decide_div_mod_eq, decide_eq_true_eq, byteAt]

/-! ### The checks in their order (R30) -/

/-- The note is whole: no byte of it is missing, and its claim count is one that a note can have (R22, R29). -/
abbrev NoteWhole (bytes : List Byte) : Prop :=
  12 ≤ bytes.length ∧ byteAt bytes 11 ≤ 4 ∧ 14 + byteAt bytes 11 ≤ bytes.length

/-- The CRC of the bytes ahead of it checks (R30). -/
abbrev NoteIntact (bytes : List Byte) : Prop :=
  (crc16 (bytes.take (12 + byteAt bytes 11))).toNat = pairAt bytes (12 + byteAt bytes 11)

/-- What a note of the own digest comes to (R30, R180). -/
def judgedNote (slot : Fin 16) : Option Note → Heard
  | none => .garbage
  | some n => if n.kind.fits n.sender && n.lanesDistinct && decide (n.index = slot) then .valid n else .garbage

/-- The first check that fails decides (R30, R31). -/
theorem classify_eq (own : Crc) (slot : Fin 16) (bytes : List Byte) :
    classify own slot bytes =
      if ¬ NoteWhole bytes then .garbage
      else if byteAt bytes 0 ≠ 0x2D then .garbage
      else if ¬ NoteIntact bytes then .garbage
      else if pairAt bytes 9 ≠ own.toNat then .foreign
      else judgedNote slot (Note.decode bytes) := by
  have short : (bytes.length < 12 ∨ 4 < byteAt bytes 11 ∨ bytes.length < 14 + byteAt bytes 11) ↔ ¬ NoteWhole bytes := by
    unfold NoteWhole; omega
  have start : bytes.getD 0 0 ≠ Config.startPattern ↔ byteAt bytes 0 ≠ 0x2D := not_congr BitVec.toNat_inj.symm
  have digest : BitVec.ofNat 16 (pairAt bytes 9) ≠ own ↔ pairAt bytes 9 ≠ own.toNat :=
    not_congr (eq_comm.trans ((eq_ofNat_pairAt_iff own bytes 9).trans eq_comm))
  refine if_congr short rfl (if_congr start rfl
    (if_congr (not_congr (eq_ofNat_pairAt_iff _ _ _)) rfl (if_congr digest rfl ?_)))
  cases Note.decode bytes <;> rfl

/-! ### The codes of the note's fields (11.7) -/

theorem SenderState.decode_code (x : SenderState) : SenderState.decode x.code = some x := by cases x <;> rfl

theorem SenderState.decode_eq_some_iff (k : Nat) (x : SenderState) : SenderState.decode k = some x ↔ x.code = k := by
  refine ⟨fun h => ?_, fun h => h ▸ x.decode_code⟩
  unfold SenderState.decode at h
  split at h <;> cases h <;> rfl

theorem SenderState.code_lt (x : SenderState) : x.code < 5 := by cases x <;> decide

theorem NoteKind.code_decode : ∀ k : Fin 4, (NoteKind.decode k).code = k.val := by decide

theorem NoteKind.code_lt (x : NoteKind) : x.code < 4 := by cases x <;> decide

theorem NoteKind.decode_code (x : NoteKind) : NoteKind.decode (Fin.ofNat 4 x.code) = x := by cases x <;> rfl

/-- The kind and sender state that go together, by their codes (R180). -/
def PairedCodes (kind sender : Nat) : Prop :=
  (kind = 0 ∧ (sender = 2 ∨ sender = 3)) ∨ (kind = 1 ∧ sender = 0) ∨ (kind = 2 ∧ sender = 1) ∨ (kind = 3 ∧ sender = 4)

theorem NoteKind.fits_iff (kind : NoteKind) (sender : SenderState) :
    kind.fits sender = true ↔ PairedCodes kind.code sender.code := by
  unfold PairedCodes
  cases kind <;> cases sender <;> decide

/-- Only the code of a sender state is paired with a kind's (R180). -/
theorem PairedCodes.exists_sender {kind sender : Nat} (h : PairedCodes kind sender) :
    ∃ x, SenderState.decode sender = some x := by
  rcases h with ⟨-, rfl | rfl⟩ | ⟨-, rfl⟩ | ⟨-, rfl⟩ | ⟨-, rfl⟩ <;> exact ⟨_, rfl⟩

/-! ### The note that bytes spell (11.7) -/

/-- The claim that a byte spells. -/
def claimOf (b : Byte) : Claim := { lane := Fin.ofNat 8 (b.toNat / 4), priority := Fin.ofNat 4 b.toNat }

/-- The bytes of the claims. -/
def claimBytes (bytes : List Byte) : List Byte := (bytes.drop 12).take (byteAt bytes 11)

/-- The note that bytes spell, given its sender state. -/
def Note.spelled (bytes : List Byte) (sender : SenderState) : Note :=
  { index := Fin.ofNat 16 (byteAt bytes 1 / 16), kind := NoteKind.decode (Fin.ofNat 4 (byteAt bytes 1 / 4)), sender
    ready := bitAt bytes 2 1, catchup := bitAt bytes 2 0, frame := BitVec.ofNat 32 (quadAt bytes 3)
    epoch := BitVec.ofNat 16 (pairAt bytes 7), digest := BitVec.ofNat 16 (pairAt bytes 9)
    claims := (claimBytes bytes).map claimOf }

theorem Note.decode_eq (bytes : List Byte) :
    Note.decode bytes = (SenderState.decode (byteAt bytes 2 / 32)).map (Note.spelled bytes) := rfl

section
variable (bytes : List Byte) (sender : SenderState)

theorem Note.spelled_index_iff (slot : Fin 16) :
    (Note.spelled bytes sender).index = slot ↔ byteAt bytes 1 / 16 = slot.val := by
  have small : byteAt bytes 1 / 16 < 16 := by have := byteAt_lt bytes 1; omega
  rw [Fin.ext_iff]
  change byteAt bytes 1 / 16 % 16 = slot.val ↔ _
  rw [Nat.mod_eq_of_lt small]

theorem Note.spelled_kind : (Note.spelled bytes sender).kind.code = byteAt bytes 1 / 4 % 4 := NoteKind.code_decode _

theorem Note.spelled_frame : (Note.spelled bytes sender).frame.toNat = quadAt bytes 3 :=
  Nat.mod_eq_of_lt (quadAt_lt bytes 3)

theorem Note.spelled_epoch : (Note.spelled bytes sender).epoch.toNat = pairAt bytes 7 :=
  Nat.mod_eq_of_lt (pairAt_lt bytes 7)

/-- The claims as pairs of lane and priority. -/
theorem Note.spelled_claims :
    (Note.spelled bytes sender).claims.map (fun c => (c.lane.val, c.priority.val)) =
      (claimBytes bytes).map fun c => (c.toNat / 4 % 8, c.toNat % 4) := by
  rw [Note.spelled, List.map_map]
  rfl

/-- The lanes that the claims name are distinct where their numbers are. -/
theorem Note.spelled_lanesDistinct :
    (Note.spelled bytes sender).lanesDistinct = true ↔
      (((claimBytes bytes).map fun c => (c.toNat / 4 % 8, c.toNat % 4)).map Prod.fst).Nodup := by
  rw [← Note.spelled_claims bytes sender, List.map_map, Note.lanesDistinct, decide_eq_true_eq,
    ← List.nodup_map_iff (f := Fin.val) Fin.val_injective, List.map_map]
  rfl

end

/-- The checks on the note that bytes of the own digest spell (R30, R180). -/
def NoteAccepted (slot : Fin 16) (bytes : List Byte) : Prop :=
  PairedCodes (byteAt bytes 1 / 4 % 4) (byteAt bytes 2 / 32) ∧
    (((claimBytes bytes).map fun c => (c.toNat / 4 % 8, c.toNat % 4)).map Prod.fst).Nodup ∧
    byteAt bytes 1 / 16 = slot.val

theorem judgedNote_spelled {slot : Fin 16} {bytes : List Byte} {sender : SenderState}
    (h : SenderState.decode (byteAt bytes 2 / 32) = some sender) :
    (NoteAccepted slot bytes → judgedNote slot (Note.decode bytes) = .valid (Note.spelled bytes sender)) ∧
      (¬ NoteAccepted slot bytes → judgedNote slot (Note.decode bytes) = .garbage) := by
  have code : (Note.spelled bytes sender).sender.code = byteAt bytes 2 / 32 := (SenderState.decode_eq_some_iff _ _).1 h
  have accepted : ((Note.spelled bytes sender).kind.fits (Note.spelled bytes sender).sender &&
      (Note.spelled bytes sender).lanesDistinct && decide ((Note.spelled bytes sender).index = slot)) = true ↔
      NoteAccepted slot bytes := by
    rw [Bool.and_eq_true, Bool.and_eq_true, decide_eq_true_eq, NoteKind.fits_iff, Note.spelled_kind,
      Note.spelled_lanesDistinct, Note.spelled_index_iff, and_assoc, code]
    exact Iff.rfl
  rw [Note.decode_eq, h]
  exact ⟨fun ha => if_pos (accepted.2 ha), fun hn => if_neg (mt accepted.1 hn)⟩

theorem judgedNote_refused {slot : Fin 16} {bytes : List Byte} (h : ¬ NoteAccepted slot bytes) :
    judgedNote slot (Note.decode bytes) = .garbage := by
  cases hd : SenderState.decode (byteAt bytes 2 / 32) with
  | none => rw [Note.decode_eq, hd]; rfl
  | some sender => exact (judgedNote_spelled hd).2 h

/-! ### Receptions cut short -/

theorem classify_of_not_whole {own : Crc} {slot : Fin 16} {bytes : List Byte} (h : ¬ NoteWhole bytes) :
    classify own slot bytes = .garbage := by
  rw [classify_eq, if_pos h]

section
variable {heard : List Bool} {tail : List (Bool × Bool)}

/-- Bits that end before the note's last one are GARBAGE (R22). -/
theorem classify_short (ht : Broken tail) (h : EndsShort heard) (own : Crc) (slot : Fin 16) :
    classify own slot (receivedBytes (heard.map symbolOfBit ++ tail)) = .garbage := by
  rw [receivedBytes_short ht h]
  refine classify_of_not_whole ?_
  rintro ⟨twelve, -, whole⟩
  rw [length_bytesOfBits] at twelve whole
  unfold EndsShort claimCount at h
  omega

/-- A claim count above 4 is GARBAGE (R29). -/
theorem classify_excess (ht : Broken tail) (hl : 96 ≤ heard.length) (hc : 4 < claimCount heard) (own : Crc)
    (slot : Fin 16) : classify own slot (receivedBytes (heard.map symbolOfBit ++ tail)) = .garbage := by
  rw [receivedBytes_excess ht hl hc]
  refine classify_of_not_whole fun whole => ?_
  rw [← claimCount_take hl] at hc
  exact absurd whole.2.1 hc.not_ge

/-- Bits that end before the shortest note does are GARBAGE, whatever count they hold (R22, R29). -/
theorem classify_below_shortest (ht : Broken tail) (hl : heard.length < 112) (own : Crc) (slot : Fin 16) :
    classify own slot (receivedBytes (heard.map symbolOfBit ++ tail)) = .garbage := by
  by_cases excess : 96 ≤ heard.length ∧ 4 < claimCount heard
  · exact classify_excess ht excess.1 excess.2 own slot
  · refine classify_short ht ?_ own slot
    unfold EndsShort
    omega

end

end Sys2Proof.Machine
end

section
/-! SUPPORT. A well-made note is received as it was sent, and any other reception by the first check that fails (O16). -/

namespace Sys2Proof.Machine

/-! ### The fields of a note as sent (11.7) -/

/-- The byte of a claim. -/
def Claim.byte (c : Claim) : Byte := Machine.byte (c.lane.val * 4 + c.priority.val)

theorem claimOf_byte (c : Claim) : claimOf c.byte = c := by
  have every : ∀ (l : Fin 8) (p : Fin 4),
      claimOf (Claim.byte { lane := l, priority := p }) = { lane := l, priority := p } := by
    decide
  exact every c.lane c.priority

/-- The twelve bytes of a note ahead of its claims. -/
def Note.head (n : Note) : List Byte :=
  [Config.startPattern, byte (n.index.val * 16 + n.kind.code * 4),
    byte (n.sender.code * 32 + flagBit 1 n.ready + flagBit 0 n.catchup)]
    ++ bytes4 n.frame.toNat ++ bytes2 n.epoch.toNat ++ bytes2 n.digest.toNat ++ [byte n.claims.length]

theorem Note.body_eq (n : Note) : n.body = n.head ++ n.claims.map Claim.byte := rfl

theorem Note.body_length (n : Note) : n.body.length = 12 + n.claims.length := by
  rw [Note.body_eq, List.length_append, List.length_map]
  rfl

theorem Note.encode_eq (n : Note) : n.encode = n.head ++ (n.claims.map Claim.byte ++ bytes2 (crc16 n.body).toNat) := by
  rw [Note.encode, Note.body_eq, List.append_assoc]

theorem toNat_byte (k : Nat) : (byte k).toNat = k % 256 := BitVec.toNat_ofNat _ _

/-- A two-byte field at the end of a string of bytes holds its number. -/
theorem pairAt_append_bytes2 (l : List Byte) (k : Nat) : pairAt (l ++ bytes2 k) l.length = k % 65536 := by
  have high : byteAt (l ++ bytes2 k) l.length = k / 256 % 256 := by
    rw [byteAt, List.getD_append_right _ _ _ _ le_rfl, Nat.sub_self]
    exact toNat_byte _
  have low : byteAt (l ++ bytes2 k) (l.length + 1) = k % 256 := by
    rw [byteAt, List.getD_append_right _ _ _ _ (Nat.le_add_right _ 1), Nat.add_sub_cancel_left]
    exact toNat_byte _
  rw [pairAt, high, low]
  omega

section
variable (n : Note)

theorem Note.start_encode : byteAt n.encode 0 = 0x2D := rfl

theorem Note.index_kind_encode : byteAt n.encode 1 = n.index.val * 16 + n.kind.code * 4 := by
  have kind := n.kind.code_lt
  change (byte (n.index.val * 16 + n.kind.code * 4)).toNat = _
  rw [toNat_byte, Nat.mod_eq_of_lt (by omega)]

theorem Note.sender_flags_encode :
    byteAt n.encode 2 = n.sender.code * 32 + n.ready.toNat * 2 + n.catchup.toNat := by
  have sender := n.sender.code_lt
  have flags : flagBit 1 n.ready = n.ready.toNat * 2 ∧ flagBit 0 n.catchup = n.catchup.toNat := by
    cases n.ready <;> cases n.catchup <;> decide
  have ready := n.ready.toNat_le
  have catchup := n.catchup.toNat_le
  change (byte (n.sender.code * 32 + flagBit 1 n.ready + flagBit 0 n.catchup)).toNat = _
  rw [toNat_byte, flags.1, flags.2, Nat.mod_eq_of_lt (by omega)]

theorem Note.frame_encode : quadAt n.encode 3 = n.frame.toNat := by
  have small := n.frame.isLt
  change ((byte (n.frame.toNat / 16777216)).toNat * 256 + (byte (n.frame.toNat / 65536)).toNat) * 65536 +
    ((byte (n.frame.toNat / 256)).toNat * 256 + (byte n.frame.toNat).toNat) = _
  simp only [toNat_byte]
  omega

theorem Note.epoch_encode : pairAt n.encode 7 = n.epoch.toNat := by
  have small := n.epoch.isLt
  change (byte (n.epoch.toNat / 256)).toNat * 256 + (byte n.epoch.toNat).toNat = _
  simp only [toNat_byte]
  omega

theorem Note.digest_encode : pairAt n.encode 9 = n.digest.toNat := by
  have small := n.digest.isLt
  change (byte (n.digest.toNat / 256)).toNat * 256 + (byte n.digest.toNat).toNat = _
  simp only [toNat_byte]
  omega

variable {n} (h : n.claims.length ≤ 4)
include h

theorem Note.count_encode : byteAt n.encode 11 = n.claims.length := by
  change (byte n.claims.length).toNat = _
  rw [toNat_byte, Nat.mod_eq_of_lt (by omega)]

theorem Note.claimBytes_encode : claimBytes n.encode = n.claims.map Claim.byte := by
  rw [claimBytes, Note.count_encode h, Note.encode_eq, List.drop_left' (by rfl), List.take_left' (by simp)]

theorem Note.whole_encode : NoteWhole n.encode := by
  unfold NoteWhole
  rw [Note.count_encode h, Note.encode_length]
  omega

theorem Note.intact_encode : NoteIntact n.encode := by
  have small := (crc16 n.body).isLt
  have body : n.encode.take (12 + n.claims.length) = n.body := by
    rw [Note.encode, List.take_left' n.body_length]
  rw [NoteIntact, Note.count_encode h, body, ← Note.body_length, Note.encode, pairAt_append_bytes2,
    Nat.mod_eq_of_lt small]

/-- The bytes of a note spell it. -/
theorem Note.spelled_encode : Note.spelled n.encode n.sender = n := by
  have kind := n.kind.code_lt
  have sender := n.sender.code_lt
  have readyLe := n.ready.toNat_le
  have catchupLe := n.catchup.toNat_le
  have index : Fin.ofNat 16 (byteAt n.encode 1 / 16) = n.index := by
    rw [Note.index_kind_encode]
    refine Fin.ext ?_
    change _ % 16 = _
    omega
  have kindCode : Fin.ofNat 4 (byteAt n.encode 1 / 4) = Fin.ofNat 4 n.kind.code := by
    rw [Note.index_kind_encode]
    refine Fin.ext ?_
    change _ % 4 = _ % 4
    omega
  have ready : bitAt n.encode 2 1 = n.ready := by
    rw [Bool.eq_iff_iff, bitAt_iff, Note.sender_flags_encode, ← Bool.toNat_eq_one]
    omega
  have catchup : bitAt n.encode 2 0 = n.catchup := by
    rw [Bool.eq_iff_iff, bitAt_iff, Note.sender_flags_encode, ← Bool.toNat_eq_one]
    omega
  have claims : (claimBytes n.encode).map claimOf = n.claims := by
    rw [Note.claimBytes_encode h, List.map_map]
    exact (List.map_congr_left fun c _ => claimOf_byte c).trans (List.map_id _)
  rw [Note.spelled, index, kindCode, NoteKind.decode_code, ready, catchup, Note.frame_encode, Note.epoch_encode,
    Note.digest_encode, claims]
  simp only [BitVec.ofNat_toNat, BitVec.setWidth_eq]

theorem Note.decode_encode : Note.decode n.encode = some n := by
  have code : byteAt n.encode 2 / 32 = n.sender.code := by
    have ready := n.ready.toNat_le
    have catchup := n.catchup.toNat_le
    rw [Note.sender_flags_encode]
    omega
  rw [Note.decode_eq, code, SenderState.decode_code, Option.map_some, Note.spelled_encode h]

end

/-! ### A note heard whole (R30, R31) -/

theorem Note.wellMade_iff (n : Note) :
    n.wellMade = true ↔ n.kind.fits n.sender = true ∧ n.lanesDistinct = true ∧ n.claims.length ≤ 4 := by
  simp only [Note.wellMade, Bool.and_eq_true, decide_eq_true_eq, and_assoc]

/-- A well-made note is valid at its own digest and FOREIGN at any other (R30, R31). -/
theorem classify_encode {n : Note} (h : n.wellMade = true) (own : Crc) :
    classify own n.index n.encode = if n.digest ≠ own then .foreign else .valid n := by
  obtain ⟨fits, distinct, count⟩ := n.wellMade_iff.1 h
  have judged : judgedNote n.index (some n) = .valid n := if_pos (by simp [fits, distinct])
  rw [classify_eq, if_neg (not_not_intro (Note.whole_encode count)), if_neg (not_not_intro n.start_encode),
    if_neg (not_not_intro (Note.intact_encode count)), Note.decode_encode count, judged, Note.digest_encode]
  exact if_congr (not_congr BitVec.toNat_inj) rfl rfl

/-- The symbols of a well-made note bring its bytes, in the ticks of its bits (R21, R22). -/
theorem receivedBytes_encode {n : Note} (h : n.claims.length ≤ 4) :
    receptionTicks (symbolsOf n.encode) = 8 * (14 + n.claims.length) ∧
      receivedBytes (symbolsOf n.encode) = n.encode := by
  have count : claimCount (n.encode.flatMap bitsOfByte) = n.claims.length := by
    rw [claimCount, bytesOfBits_flatMap, Note.count_encode h]
  have length : (n.encode.flatMap bitsOfByte).length = 8 * (14 + n.claims.length) := by
    rw [length_flatMap_bitsOfByte, Note.encode_length]
  have ticks : receptionTicks (symbolsOf n.encode) = 8 * (14 + n.claims.length) := by
    have whole := receptionTicks_whole (heard := n.encode.flatMap bitsOfByte) (tail := []) (.inl rfl)
      (by rw [count, length]) (by rw [count]; exact h)
    rwa [List.append_nil, count] at whole
  refine ⟨ticks, ?_⟩
  have all : (symbolsOf n.encode).take (8 * (14 + n.claims.length)) = symbolsOf n.encode :=
    List.take_of_length_le (by rw [symbolsOf, List.length_map, length])
  rw [receivedBytes, ticks, all, symbolsOf, bitsOfSymbols_map, bytesOfBits_flatMap]

/-- Settles O16. -/
theorem notesAreHeardAsSentOrByTheFirstFailedCheck : Obligations.NotesAreHeardAsSentOrByTheFirstFailedCheck := by
  refine ⟨fun n hn => ?sent, fun own slot bytes => ?checks, fun own slot heard tail ht => ?cutShort⟩
  case sent =>
    obtain ⟨ticks, bytes⟩ := receivedBytes_encode (n.wellMade_iff.1 hn).2.2
    exact ⟨bytes, ticks, (classify_encode hn _).trans (if_neg (not_not_intro rfl)),
      fun own hne => (classify_encode hn own).trans (if_pos hne.symm)⟩
  case checks =>
    intro count whole started intact kind sender paired claims distinct
    have accepted : NoteAccepted slot bytes ↔ paired ∧ distinct ∧ byteAt bytes 1 / 16 = slot.val := Iff.rfl
    have judged (hw : whole) (hs : started) (hi : intact) (hd : pairAt bytes 9 = own.toNat) :
        classify own slot bytes = judgedNote slot (Note.decode bytes) := by
      rw [classify_eq, if_neg (not_not_intro hw), if_neg (not_not_intro hs), if_neg (not_not_intro hi),
        if_neg (not_not_intro hd)]
    refine ⟨fun hw => classify_of_not_whole hw, fun hw hs => ?_, fun hw hs hi => ?_, fun hw hs hi hd => ?_,
      fun hw hs hi hd => ?_⟩
    · rw [classify_eq, if_neg (not_not_intro hw), if_pos hs]
    · rw [classify_eq, if_neg (not_not_intro hw), if_neg (not_not_intro hs), if_pos hi]
    · rw [classify_eq, if_neg (not_not_intro hw), if_neg (not_not_intro hs), if_neg (not_not_intro hi), if_pos hd]
    · rw [judged hw hs hi hd]
      refine ⟨fun hp => judgedNote_refused fun h => hp h.1, fun hl => judgedNote_refused fun h => hl h.2.1,
        fun hx => judgedNote_refused fun h => hx h.2.2, fun hp hl hx => ?_⟩
      obtain ⟨x, hsender⟩ := PairedCodes.exists_sender hp
      have code : x.code = sender := (SenderState.decode_eq_some_iff _ _).1 hsender
      refine ⟨Note.spelled bytes x, (judgedNote_spelled hsender).1 (accepted.2 ⟨hp, hl, hx⟩),
        (Note.spelled_index_iff bytes x slot).2 hx, Note.spelled_kind bytes x, code, bitAt_iff bytes 2 1, ?_,
        Note.spelled_frame bytes x, Note.spelled_epoch bytes x, ((eq_ofNat_pairAt_iff own bytes 9).2 hd.symm).symm,
        Note.spelled_claims bytes x⟩
      exact (bitAt_iff bytes 2 0).trans (by rw [Nat.pow_zero, Nat.div_one])
  case cutShort =>
    intro symbols count
    refine ⟨fun hl hc => ?_, fun hs => ?_⟩
    · have many : 4 < claimCount heard := by rw [claimCount_eq hl]; exact hc
      exact ⟨receptionTicks_excess ht hl many, classify_excess ht hl many own slot⟩
    · have short : EndsShort heard := by
        rcases Nat.lt_or_ge heard.length 96 with hl | hl
        · exact .inl hl
        · rw [EndsShort, claimCount_eq hl]; exact hs
      exact ⟨receptionTicks_short ht short, classify_short ht short own slot⟩

end Sys2Proof.Machine
end

section
/-! SUPPORT. A reception's end: the slot's outcome, and what a note gives its sender's member entry (O43). -/

namespace Sys2Proof.Machine

/-! ### The end of a reception (R22, R29) -/

/-- Which slots' receptions can end (R29, R34). -/
theorem State.receives_iff (s : State) (slot : Fin 16) :
    s.receives slot = true ↔
      s.hears slot = true ∧ (s.outcomeOf slot = .pending ∨ (s.outcomeOf slot = .notSent ∧ slot = s.prof.index)) := by
  simp only [State.receives, Bool.and_eq_true, Bool.or_eq_true, beq_iff_eq]

theorem noteCompletionEffect_received {slot : Fin 16} {heard : Reception} {s : State} (h : s.receives slot = true) :
    noteCompletionEffect slot heard s =
      (s.advanceTo (s.receptionEnd slot heard)).takeReception slot (receivedBytes heard.symbols) := if_pos h

/-- The state with the bytes received in its buffer (R29). -/
def State.buffered (bytes : List Byte) (s : State) : State :=
  { s with transceiver := { s.transceiver with buffer := bytes } }

section
variable {slot : Fin 16} {bytes : List Byte} {s : State}

theorem State.takeReception_garbage (h : classify s.digest slot bytes = .garbage) :
    s.takeReception slot bytes = (s.buffered bytes).concludeSlot slot .garbage := by
  unfold State.takeReception State.buffered
  simp only [h]

theorem State.takeReception_foreign (h : classify s.digest slot bytes = .foreign) :
    s.takeReception slot bytes = (s.buffered bytes).takeForeign slot := by
  unfold State.takeReception State.buffered
  simp only [h]

theorem State.takeReception_valid {n : Note} (h : classify s.digest slot bytes = .valid n) :
    s.takeReception slot bytes = (s.buffered bytes).takeNote slot n := by
  unfold State.takeReception State.buffered
  simp only [h]

end

/-- A slot's outcome is set where it is still PENDING (R35). -/
theorem State.concludeSlot_outcome (slot : Fin 16) (o : SlotOutcome) (s : State) :
    (s.concludeSlot slot o).outcomeOf slot = if s.outcomeOf slot = .pending then o else s.outcomeOf slot := by
  by_cases h : s.outcomeOf slot = .pending
  · rw [if_pos h, State.concludeSlot_same h]
  · rw [if_neg h, State.concludeSlot, if_neg h]

/-- What every end of a reception leaves (R29). -/
structure EndsReception (tick : Nat) (s t : State) : Prop where
  now : t.now = max s.now tick
  table : t.table = s.table
  verifier : t.verifier = s.verifier
  port : t.port = s.port
  profile : t.profile = s.profile
  store : t.store = s.store

/-- What a reception that is no valid note leaves: the outcome, and the FOREIGN set that stands after it (R30, R31). -/
structure Concludes (slot : Fin 16) (o : SlotOutcome) (foreignSet : StationSet) (tick : Nat) (s t : State) : Prop
    extends EndsReception tick s t where
  own : t.outcomeOf slot = if s.outcomeOf slot = .pending then o else s.outcomeOf slot
  others : ∀ other, other ≠ slot → t.outcomeOf other = s.outcomeOf other
  foreignSet : t.transceiver.foreignSet = foreignSet
  roster : t.roster = s.roster
  membership : t.membership = s.membership
  log : t.log = s.log
  record : ∀ body, t.record body = s.record body

theorem State.concludeSlot_concludes (slot : Fin 16) (o : SlotOutcome) (bytes : List Byte) (tick : Nat) (s : State) :
    Concludes slot o s.transceiver.foreignSet tick s (((s.advanceTo tick).buffered bytes).concludeSlot slot o) := by
  obtain ⟨settle, lows, highs, sampled, marked, e⟩ := s.advanceTo_lapsed tick
  rw [e, State.concludeSlot_frame]
  exact
    { now := rfl, table := rfl, verifier := rfl, port := rfl, profile := rfl, store := rfl
      own := State.concludeSlot_outcome slot _ _, others := fun _ ho => State.concludeSlot_other _ _ ho
      foreignSet := rfl, roster := rfl, membership := rfl, log := rfl, record := fun _ => rfl }

section
variable {slot : Fin 16} {bytes : List Byte} {s : State}

theorem State.takeReception_concludes_garbage (h : classify s.digest slot bytes = .garbage) (tick : Nat) :
    Concludes slot .garbage s.transceiver.foreignSet tick s ((s.advanceTo tick).takeReception slot bytes) := by
  rw [State.takeReception_garbage (by exact h)]
  exact State.concludeSlot_concludes slot .garbage bytes tick s

theorem State.takeReception_concludes_foreign (h : classify s.digest slot bytes = .foreign) (tick : Nat) :
    Concludes slot .foreign (s.transceiver.foreignSet ||| (1#16 <<< slot.val)) tick s
      ((s.advanceTo tick).takeReception slot bytes) := by
  have concludes := State.concludeSlot_concludes slot .foreign bytes tick s
  rw [State.takeReception_foreign (by exact h)]
  exact { concludes with foreignSet := congrArg (· ||| (1#16 <<< slot.val)) concludes.foreignSet }

end

/-! ### A note at the roster (R42 to R44) -/

section
variable {n : Note} {s : State}

theorem State.hearNote_known {m : Member} (h : s.roster.entry n.index = some m) (slipped : Bool) :
    s.hearNote slipped n =
      { s with roster := { s.roster with members := putMember (m.hear slipped n) s.roster.members } } := by
  unfold State.hearNote
  rw [h]

theorem State.hearNote_new (h : s.roster.entry n.index = none) (slipped : Bool) :
    s.hearNote slipped n =
      { s with
        roster := { s.roster with members := putMember (Member.create slipped n) s.roster.members }
        log := s.log.append (s.record n.arrival)
        choices := s.choices + 1 } := by
  unfold State.hearNote
  rw [h]
  exact State.logChains_one _ _

/-- A JOIN or FOUND note adds a member, and any other brings a stray (R42, R43). -/
theorem Note.arrival_eq (n : Note) :
    n.arrival = if n.kind = .join ∨ n.kind = .found then .memberAdded n.index else .stray n.index := by
  unfold Note.arrival
  cases n.kind <;> rfl

/-- What a note gives the roster and the log (R42 to R44). -/
structure HearsNote (slipped : Bool) (n : Note) (s t : State) : Prop where
  known : ∀ m, s.roster.entry n.index = some m →
    t.roster.entry n.index = some (m.hear slipped n) ∧ t.log = s.log
  new : s.roster.entry n.index = none →
    t.roster.entry n.index = some (Member.create slipped n) ∧ t.log = s.log.append (s.record n.arrival)
  others : ∀ other, other ≠ n.index → t.roster.entry other = s.roster.entry other

theorem State.hearNote_hearsNote (slipped : Bool) (n : Note) (s : State) :
    HearsNote slipped n s (s.hearNote slipped n) := by
  cases h : s.roster.entry n.index with
  | some m =>
    have index : (m.hear slipped n).index = n.index := by
      have found := List.find?_some (p := fun m : Member => m.index == n.index) h
      exact eq_of_beq found
    have entry (i : Fin 16) : (s.hearNote slipped n).roster.entry i =
        if i = n.index then some (m.hear slipped n) else s.roster.entry i := by
      rw [State.hearNote_known h, ← index]
      exact find_putMember _ _ _
    refine ⟨fun m' hm => ?_, fun hn => ?_, fun other ho => (entry other).trans (if_neg ho)⟩
    · obtain rfl : m = m' := Option.some.inj (h.symm.trans hm)
      exact ⟨(entry _).trans (if_pos rfl), by rw [State.hearNote_known h]⟩
    · cases h.symm.trans hn
  | none =>
    have entry (i : Fin 16) : (s.hearNote slipped n).roster.entry i =
        if i = n.index then some (Member.create slipped n) else s.roster.entry i := by
      rw [State.hearNote_new h]
      exact find_putMember _ _ _
    refine ⟨fun m hm => ?_, fun _ => ⟨(entry _).trans (if_pos rfl), by rw [State.hearNote_new h]⟩,
      fun other ho => (entry other).trans (if_neg ho)⟩
    cases h.symm.trans hm

/-- A note changes the roster, the log and the choices alone. -/
theorem State.hearNote_frame (slipped : Bool) (n : Note) (s : State) :
    s.hearNote slipped n =
      { s with
        roster := (s.hearNote slipped n).roster, log := (s.hearNote slipped n).log
        choices := (s.hearNote slipped n).choices } := by
  unfold State.hearNote
  split <;> rfl

end

/-! ### A valid note (R32, R34, R36) -/

/-- The note's frame number is not the station's current one (R32). -/
def State.slips (n : Note) (s : State) : Bool := s.hasNumber && n.frame != s.barrier.frameNo

/-- A listener that hears its own index (R36). -/
def State.duplicates (n : Note) (s : State) : Prop := s.membership.state = .listening ∧ n.index = s.prof.index

theorem State.takeNote_duplicate {slot : Fin 16} {n : Note} {s : State} (h : s.duplicates n) :
    s.takeNote slot n = s.detach .duplicateIndex [] := if_pos h

theorem State.takeNote_heard {slot : Fin 16} {n : Note} {s : State} (h : ¬ s.duplicates n) :
    s.takeNote slot n =
      (s.concludeSlot slot (if s.slips n then .slip n else .valid n)).hearNote (s.slips n) n := if_neg h

/-- What a valid note leaves at a station that stays in the rig (R32, R42 to R44). -/
structure TakesNote (slot : Fin 16) (n : Note) (tick : Nat) (s t : State) : Prop
    extends EndsReception tick s t, HearsNote (s.slips n) n s t where
  own : t.outcomeOf slot =
    if s.outcomeOf slot = .pending then (if s.slips n then .slip n else .valid n) else s.outcomeOf slot
  otherSlots : ∀ other, other ≠ slot → t.outcomeOf other = s.outcomeOf other
  membership : t.membership = s.membership
  foreignSet : t.transceiver.foreignSet = s.transceiver.foreignSet

/-- The note goes to the roster once its slot is concluded. -/
theorem Concludes.takesNote {slot : Fin 16} {n : Note} {tick : Nat} {s u : State}
    (h : Concludes slot (if s.slips n then .slip n else .valid n) s.transceiver.foreignSet tick s u) :
    TakesNote slot n tick s (u.hearNote (s.slips n) n) := by
  obtain ⟨known, new, others⟩ := State.hearNote_hearsNote (s.slips n) n u
  rw [h.roster, h.log] at known
  rw [h.roster, h.log, h.record] at new
  rw [h.roster] at others
  have frame := State.hearNote_frame (s.slips n) n u
  exact
    { known, new, others
      now := (congrArg State.now frame).trans h.now
      table := (congrArg State.table frame).trans h.table
      verifier := (congrArg State.verifier frame).trans h.verifier
      port := (congrArg State.port frame).trans h.port
      profile := (congrArg State.profile frame).trans h.profile
      store := (congrArg State.store frame).trans h.store
      own := (congrArg (State.outcomeOf · slot) frame).trans h.own
      otherSlots := fun other ho => (congrArg (State.outcomeOf · other) frame).trans (h.others other ho)
      membership := (congrArg State.membership frame).trans h.membership
      foreignSet := (congrArg (fun t => t.transceiver.foreignSet) frame).trans h.foreignSet }

section
variable {slot : Fin 16} {bytes : List Byte} {n : Note} {s : State}

theorem State.takeReception_takesNote (h : classify s.digest slot bytes = .valid n) (hd : ¬ s.duplicates n)
    (tick : Nat) :
    TakesNote slot n tick s ((s.advanceTo tick).takeReception slot bytes) := by
  have slips : ((s.advanceTo tick).buffered bytes).slips n = s.slips n := by
    obtain ⟨settle, lows, highs, sampled, marked, e⟩ := s.advanceTo_lapsed tick
    rw [e]
    rfl
  rw [State.takeReception_valid (by exact h), State.takeNote_heard (by exact hd), slips]
  exact (State.concludeSlot_concludes slot _ bytes tick s).takesNote

theorem State.takeReception_detaches (h : classify s.digest slot bytes = .valid n) (hd : s.duplicates n) (tick : Nat) :
    DetachesInSlot .duplicateIndex tick s ((s.advanceTo tick).takeReception slot bytes) ∧
      EndsReception tick s ((s.advanceTo tick).takeReception slot bytes) := by
  obtain ⟨settle, lows, highs, sampled, marked, e⟩ := s.advanceTo_lapsed tick
  have rig : s.membership.state.inRig = true := by rw [hd.1]; rfl
  rw [e, State.takeReception_valid (by exact h), State.takeNote_duplicate (by exact hd),
    State.detach_alone (by exact rig)]
  exact
    ⟨{ now := rfl, sending := rfl, table := rfl, verifier := rfl, port := rfl, profile := rfl, membership := rfl
       barrier := ⟨rfl, rfl, rfl⟩, transceiver := rfl, roster := rfl, resolver := rfl, log := rfl },
      ⟨rfl, rfl, rfl, rfl, rfl, rfl⟩⟩

/-- Whatever the bytes classify as, the reception ends at its tick (R29). -/
theorem State.takeReception_endsReception (slot : Fin 16) (bytes : List Byte) (tick : Nat) (s : State) :
    EndsReception tick s ((s.advanceTo tick).takeReception slot bytes) := by
  cases h : classify s.digest slot bytes with
  | garbage => exact (State.takeReception_concludes_garbage h tick).toEndsReception
  | foreign => exact (State.takeReception_concludes_foreign h tick).toEndsReception
  | valid n =>
    by_cases hd : s.duplicates n
    · exact (State.takeReception_detaches h hd tick).2
    · exact (State.takeReception_takesNote h hd tick).toEndsReception

end

/-! ### What the obligation's terms say -/

/-- Which stations have a current frame number, by state (R32). -/
theorem State.hasNumber_iff_named (s : State) :
    s.hasNumber = true ↔
      (s.membership.state = .listening ∧ s.membership.adopted.isSome = true) ∨ s.membership.state = .joining ∨
        s.membership.state = .flushing ∨ s.membership.state = .active ∨ s.membership.state = .leaving := by
  rw [State.hasNumber_iff, StationState.judgesSplit_iff, or_comm]

/-- A symbol that is none of a bit's ends the reception with it (R22). -/
theorem receptionTicks_invalid {heard : List Bool} (hl : heard.length < 96) (half : Bool) (rest : List (Bool × Bool)) :
    receptionTicks (heard.map symbolOfBit ++ (half, half) :: rest) = heard.length + 1 :=
  (receptionTicks_short (.inr ⟨half, rest, rfl⟩) (.inl hl)).trans (congrArg _ (if_neg (List.cons_ne_nil _ _)))

/-- Settles O43. -/
theorem receptionsFillTheReceiptListAndTheRoster : Obligations.ReceptionsFillTheReceiptListAndTheRoster := by
  refine ⟨fun sender => by cases sender <;> rfl, State.hasNumber_iff_named, ?_⟩
  intro slot heard s ht hw hlt hown hp becomes
  refine ⟨_, State.event_next ht, ?_⟩
  have receives : s.receives slot = true := (s.receives_iff slot).2 ⟨(s.hears_iff slot).2 ⟨hw, hlt, hown⟩, hp⟩
  rw [noteCompletionEffect_received receives]
  have ends := State.takeReception_endsReception slot (receivedBytes heard.symbols) (s.receptionEnd slot heard) s
  refine ⟨ends.now, fun hc => ?garbage, fun pre half rest hs hl => ?invalid, fun hc => ?foreign,
    fun n hc => ⟨fun hlisten hindex => ?duplicate, fun hd => ?note⟩, ends.table, ends.verifier, ends.port, ends.profile,
    ends.store⟩
  case garbage =>
    have h := State.takeReception_concludes_garbage hc (s.receptionEnd slot heard)
    exact ⟨h.own, h.others, h.foreignSet, h.roster, h.membership, h.log⟩
  case invalid =>
    have hc : classify s.digest slot (receivedBytes heard.symbols) = .garbage := by
      rw [hs]
      exact classify_below_shortest (.inr ⟨half, rest, rfl⟩) hl s.digest slot
    have h := State.takeReception_concludes_garbage hc (s.receptionEnd slot heard)
    refine ⟨h.own, h.foreignSet, h.roster, h.membership, h.log, fun hl => ends.now.trans ?_⟩
    have ticks : receptionTicks heard.symbols = pre.length + 1 := by
      rw [hs]
      exact receptionTicks_invalid hl half rest
    rw [State.receptionEnd, ticks]
    rfl
  case foreign =>
    have h := State.takeReception_concludes_foreign hc (s.receptionEnd slot heard)
    exact ⟨h.own, h.others, h.foreignSet, h.roster, h.membership, h.log⟩
  case duplicate =>
    have h := (State.takeReception_detaches hc ⟨hlisten, hindex⟩ (s.receptionEnd slot heard)).1
    have records : s.detachRecords .duplicateIndex = [s.record (.fault .duplicateIndex)] := by
      rw [State.detachRecords, hlisten]; rfl
    refine ⟨by rw [h.membership], by rw [h.membership], h.barrier.1, by rw [h.roster], by rw [h.transceiver], ?_⟩
    rw [h.log, records]
    rfl
  case note =>
    have distinct : ¬ s.duplicates n := fun ⟨hl, hi⟩ => hd.elim (fun hne => hne hl) fun hne => hne hi
    have h := State.takeReception_takesNote hc distinct (s.receptionEnd slot heard)
    refine ⟨h.own, h.otherSlots, h.membership, h.foreignSet, h.known, fun hn => ?_, h.others⟩
    obtain ⟨entry, log⟩ := h.new hn
    exact ⟨entry, by rw [log, State.record, Note.arrival_eq]⟩

end Sys2Proof.Machine
end

section
/-! SUPPORT. The canonical forms of the log and the roster: every command, event and tick keeps them (O60). -/

namespace Sys2Proof.Machine

/-! ### The log and the roster from one state to another -/

/-- From `s` to `t` the log stays within its bounds and the roster's entries ascend. -/
structure KeepsForm (s t : State) : Prop where
  log : s.log.bounded = true → t.log.bounded = true
  roster : s.rosterAscending = true → t.rosterAscending = true

/-- A log that holds no more records and counts no larger gap is within the same bounds. -/
theorem StationLog.bounded_of_le {l m : StationLog} (h : l.bounded = true) (hq : m.queue.length ≤ l.queue.length)
    (hg : m.gap ≤ l.gap) : m.bounded = true := by
  simp only [StationLog.bounded, Bool.and_eq_true, decide_eq_true_eq] at h ⊢
  exact ⟨hq.trans h.1, hg.trans h.2⟩

/-- The transition of a mark moves the membership controller, the cursor and the epoch unit alone (R78, R79, R83, R136). -/
theorem State.startFrame_transit (start : FrameStart) (frame : FrameNo) (s : State) :
    ∃ m c e, s.startFrame start frame = s.transit m c e := by
  have flush (founder : Bool) : ∃ m c e, s.startFlush founder = s.transit m c e := by
    unfold State.startFlush
    simp only
    split <;> rw [State.makeCurrent_frame]
    · rw [State.reachEntry_frame]
      exact ⟨_, _, _, rfl⟩
    · exact ⟨_, _, _, rfl⟩
  cases start with
  | joining => exact flush false
  | founding => exact flush true
  | next =>
    change ∃ m c e, s.startNext frame = s.transit m c e
    obtain ⟨pendingLeave, cursor, staged, advanced⟩ := s.advanceEpoch_frame
    unfold State.startNext
    cases s.epochs.turn.isDue <;> simp only [Bool.false_eq_true, if_false, if_true]
    · split <;> rw [State.makeCurrent_frame] <;> exact ⟨_, _, _, rfl⟩
    · rw [advanced]
      split <;> rw [State.makeCurrent_frame] <;> exact ⟨_, _, _, rfl⟩

namespace KeepsForm
variable {s t : State}

theorem refl (s : State) : KeepsForm s s := ⟨id, id⟩

/-- A change of other parts of the state. -/
theorem elsewhere {u : State} (h : KeepsForm s t) (log : u.log = t.log := by rfl)
    (roster : u.roster = t.roster := by rfl) : KeepsForm s u := by
  refine ⟨fun bounded => log ▸ h.log bounded, fun ascends => ?_⟩
  rw [State.rosterAscending, roster]
  exact h.roster ascends

/-! ### The shared operations -/

theorem elapse (h : KeepsForm s t) (k : Nat) : KeepsForm s (t.elapse k) := h.elsewhere

theorem advanceTo (h : KeepsForm s t) (tick : Nat) : KeepsForm s (t.advanceTo tick) := h.elsewhere

theorem reply (h : KeepsForm s t) (code : ResultCode) : KeepsForm s (t.reply code) := h.elsewhere

theorem logChains (h : KeepsForm s t) (chains : List (List Record)) : KeepsForm s (t.logChains chains) :=
  ⟨fun bounded => State.logChains_bounded (h.log bounded) chains, h.roster⟩

/-- The clearing of the rig empties the roster (R41). -/
theorem clearRig (h : KeepsForm s t) (target : StationState) (cause : Option FaultCause) (keep : Bool) :
    KeepsForm s (t.clearRig target cause keep) := ⟨h.log, fun _ => rfl⟩

theorem enterStandby (h : KeepsForm s t) (frame : Option Bool) (chains : List (List Record)) :
    KeepsForm s (t.enterStandby frame chains) := (h.clearRig .standby none true).logChains _

theorem detach (h : KeepsForm s t) (cause : FaultCause) (chains : List (List Record)) :
    KeepsForm s (t.detach cause chains) := by
  rcases State.detach_eq cause chains t with ⟨-, e⟩ | ⟨-, e⟩ <;> rw [e]
  · exact (h.clearRig _ _ _).logChains _
  · exact h.logChains _

theorem releaseFrame (h : KeepsForm s t) (chains : List (List Record)) : KeepsForm s (t.releaseFrame chains) := by
  unfold State.releaseFrame
  split
  · exact h.enterStandby _ _
  · exact h.elsewhere.logChains _

theorem finish (h : KeepsForm s t) (chains : List (List Record)) : KeepsForm s (t.finish chains) := by
  unfold State.finish
  split
  · exact h.releaseFrame chains
  · exact h.logChains chains

theorem finishDrain (h : KeepsForm s t) : KeepsForm s t.finishDrain := by
  rcases State.finishDrain_cases t with ⟨-, e⟩ | ⟨-, e⟩ <;> rw [e]
  · exact h
  · exact h.enterStandby _ _

theorem concludeSlot (h : KeepsForm s t) (slot : Fin 16) (o : SlotOutcome) : KeepsForm s (t.concludeSlot slot o) := by
  rw [State.concludeSlot_frame]
  exact h.elsewhere

/-! ### The window and the mark -/

/-- A window end counts misses and stamps departures, entry by entry (R44, R46, R47). -/
theorem afterHandoff (h : KeepsForm s t) : KeepsForm s t.afterHandoff := by
  unfold State.afterHandoff
  rcases State.cursorAtEnd_cases _ t with e | ⟨content, e⟩ <;> rw [e] <;>
    exact ⟨h.log, fun ascends => State.rosterAtEnd_ascending (h.roster ascends) _⟩

theorem handoff (h : KeepsForm s t) : KeepsForm s t.handoff := by
  unfold State.handoff
  split
  · exact h.detach _ _
  · exact h.afterHandoff.finish _

theorem closeEarly (h : KeepsForm s t) : KeepsForm s t.closeEarly := by
  unfold State.closeEarly
  split
  · exact h.elsewhere.handoff
  · exact h

/-- A mark removes entries and marks the expected ones (R45, R48). -/
theorem markWindow (h : KeepsForm s t) : KeepsForm s t.markWindow :=
  ⟨h.log, fun ascends => Roster.atMark_ascending (h.roster ascends)⟩

theorem listenMark (h : KeepsForm s t) : KeepsForm s t.listenMark := by
  unfold State.listenMark
  exact h.elsewhere.markWindow.logChains _

theorem beginFrame (h : KeepsForm s t) (start : FrameStart) : KeepsForm s (t.beginFrame start) := by
  obtain ⟨m, c, e, transit⟩ := t.startFrame_transit start (t.frameAtMark start)
  have begun : KeepsForm s (t.begun start m c e) :=
    ⟨h.log, fun ascends => Roster.atMark_ascending (h.roster ascends)⟩
  rw [State.beginFrame_eq transit]
  exact begun.logChains _

theorem takeMark (h : KeepsForm s t) : KeepsForm s t.takeMark := by
  unfold State.takeMark
  have closed : KeepsForm s
      { t with barrier := { t.barrier with lows := 0, highs := 0, sampled := true, marked := true } }.closeEarly :=
    h.elsewhere.closeEarly
  simp only
  split
  · exact closed.listenMark
  · exact closed.beginFrame _
  · exact closed.beginFrame _
  · exact closed.beginFrame _
  · exact closed.beginFrame _
  · exact closed.beginFrame _
  · exact closed

theorem toSample (h : KeepsForm s t) : KeepsForm s t.toSample := by
  unfold State.toSample
  split
  · exact h.elapse 1
  · exact h

theorem sampleFrame (h : KeepsForm s t) (high : Bool) : KeepsForm s (t.sampleFrame high) := by
  unfold State.sampleFrame
  simp only
  split
  · exact h.elsewhere.takeMark
  · exact h.elsewhere

theorem frameLevelChange (h : KeepsForm s t) (high : Bool) : KeepsForm s (frameLevelChangeEffect high t) := by
  unfold frameLevelChangeEffect
  split
  · exact h.toSample.sampleFrame high
  · exact h.elsewhere

theorem windowEnd (h : KeepsForm s t) : KeepsForm s (windowEndEffect t) := by
  unfold windowEndEffect
  split
  · exact (h.advanceTo _).handoff
  · exact h

/-! ### The timers of a frame -/

theorem participantPull (h : KeepsForm s t) : KeepsForm s (participantPullEffect t) := by
  unfold participantPullEffect
  split
  · exact h.elsewhere
  · exact h

theorem minFrameTimeElapsed (h : KeepsForm s t) : KeepsForm s (minFrameTimeElapsedEffect t) := by
  unfold minFrameTimeElapsedEffect
  split
  · split
    · exact h.elsewhere.finish _
    · exact h
  · exact h

theorem forcedRelease (h : KeepsForm s t) : KeepsForm s t.forcedRelease := by
  unfold State.forcedRelease
  simp only
  split
  · exact h.elsewhere.enterStandby _ _
  · exact h.elsewhere.releaseFrame _

theorem holdLimitExpiry (h : KeepsForm s t) : KeepsForm s (holdLimitExpiryEffect t) := by
  unfold holdLimitExpiryEffect
  split
  · split
    · exact (h.advanceTo _).forcedRelease
    · exact h
  · exact h

theorem stallTimerExpiry (h : KeepsForm s t) : KeepsForm s (stallTimerExpiryEffect t) := by
  unfold stallTimerExpiryEffect
  split
  · split
    · exact h.elsewhere.logChains _
    · exact h
  · exact h

/-- A founder drops its members (R41). -/
theorem listenTimerExpiry (h : KeepsForm s t) : KeepsForm s (listenTimerExpiryEffect t) := by
  unfold listenTimerExpiryEffect
  split
  · split
    · exact ⟨h.log, fun _ => rfl⟩
    · exact h
  · exact h

theorem foundingPulseEnd (h : KeepsForm s t) : KeepsForm s (foundingPulseEndEffect t) := by
  unfold foundingPulseEndEffect
  split
  · split
    · exact h.elsewhere
    · exact h
  · exact h

theorem hcodeWordSent (h : KeepsForm s t) : KeepsForm s (hcodeWordSentEffect t) := by
  unfold hcodeWordSentEffect
  split
  · exact h.elsewhere
  · exact h

theorem exposureStart (h : KeepsForm s t) (hrdy : Bool) : KeepsForm s (exposureStartEffect hrdy t) := by
  unfold exposureStartEffect
  split
  · simp only
    split
    · unfold State.beginExposure
      simp only
      split <;> exact h.elsewhere
    · unfold State.skipExposure
      exact h.elsewhere.finish _
  · exact h

theorem exposureEnd (h : KeepsForm s t) : KeepsForm s (exposureEndEffect t) := by
  unfold exposureEndEffect
  split
  · simp only
    split <;> exact h.elsewhere
  · exact h

theorem exposuresEnded (h : KeepsForm s t) : KeepsForm s (exposuresEndedEffect t) := by
  unfold exposuresEndedEffect
  split
  · exact h.elsewhere.finish _
  · exact h

theorem strobeDelayEnd (h : KeepsForm s t) (channel : Fin 4) : KeepsForm s (strobeDelayEndEffect channel t) := by
  unfold strobeDelayEndEffect
  split
  · exact h.elsewhere
  · exact h

theorem strobeOffEnd (h : KeepsForm s t) (channel : Fin 4) : KeepsForm s (strobeOffEndEffect channel t) := by
  unfold strobeOffEndEffect
  split
  · exact h.elsewhere
  · exact h

theorem strobeOnEnd (h : KeepsForm s t) (channel : Fin 4) : KeepsForm s (strobeOnEndEffect channel t) := by
  unfold strobeOnEndEffect
  split
  · simp only
    split
    · exact h.elsewhere.finishDrain
    · exact h.elsewhere.finish _
  · exact h

/-! ### Notes and the verify walk -/

theorem searchSpanEnd (h : KeepsForm s t) (slot : Fin 16) (low : Bool) :
    KeepsForm s (searchSpanEndEffect slot low t) := by
  unfold searchSpanEndEffect
  split
  · exact (h.advanceTo _).concludeSlot _ _
  · exact h

/-- A note updates its sender's entry or puts a new one at its place (R42, R43). -/
theorem hearNote (h : KeepsForm s t) (slipped : Bool) (n : Note) : KeepsForm s (t.hearNote slipped n) := by
  refine ⟨fun bounded => ?_, fun ascends => State.hearNote_ascending (h.roster ascends) slipped n⟩
  cases entry : t.roster.entry n.index with
  | some m => rw [State.hearNote_known entry]; exact h.log bounded
  | none => rw [State.hearNote_new entry]; exact StationLog.append_bounded (h.log bounded) _

theorem takeReception (h : KeepsForm s t) (slot : Fin 16) (bytes : List Byte) :
    KeepsForm s (t.takeReception slot bytes) := by
  have buffered : KeepsForm s { t with transceiver := { t.transceiver with buffer := bytes } } := h.elsewhere
  unfold State.takeReception
  simp only
  split
  · exact buffered.concludeSlot _ _
  · exact (buffered.concludeSlot slot .foreign).elsewhere
  · unfold State.takeNote
    simp only
    split
    · exact buffered.detach _ _
    · exact (buffered.concludeSlot _ _).hearNote _ _

theorem noteCompletion (h : KeepsForm s t) (slot : Fin 16) (r : Reception) :
    KeepsForm s (noteCompletionEffect slot r t) := by
  unfold noteCompletionEffect
  split
  · exact (h.advanceTo _).takeReception _ _
  · exact h

theorem becomeJoining (h : KeepsForm s t) : KeepsForm s t.becomeJoining := by
  unfold State.becomeJoining
  split
  · exact h.elsewhere
  · exact h

theorem ownTransmissionStart (h : KeepsForm s t) : KeepsForm s (ownTransmissionStartEffect t) := by
  have passed : KeepsForm s (t.advanceTo t.ownStartTick).passOwnSlot := h.elsewhere
  unfold ownTransmissionStartEffect
  split
  · simp only
    split
    · exact passed.becomeJoining.elsewhere
    · exact passed.concludeSlot _ _
  · exact h

theorem judgeReadback (h : KeepsForm s t) (x : Transmission) : KeepsForm s (t.judgeReadback x) := by
  unfold State.judgeReadback
  split
  · exact (h.concludeSlot _ _).detach _ _
  · exact (h.concludeSlot _ _).elsewhere

theorem ownNoteCompletion (h : KeepsForm s t) (levels : List (Bool × Bool)) :
    KeepsForm s (ownNoteCompletionEffect levels t) := by
  unfold ownNoteCompletionEffect
  split
  · simp only
    split
    · exact h.elsewhere.judgeReadback _
    · unfold State.endUnjudged
      split <;> exact h.elsewhere
  · exact h

theorem partingNoteSend (h : KeepsForm s t) : KeepsForm s (partingNoteSendEffect t) := by
  unfold partingNoteSendEffect
  split
  · exact h.elsewhere
  · exact h
  · exact h

theorem verifyWalkConclusion (h : KeepsForm s t) : KeepsForm s (verifyWalkConclusionEffect t) := by
  unfold verifyWalkConclusionEffect concludeWalk
  split
  · exact h.elsewhere.logChains _
  all_goals exact h

/-! ### The commands of the port -/

theorem writeEntry (h : KeepsForm s t) (entry : Fin 64) (content : Option Plan) :
    KeepsForm s (writeEntry entry content t) := by
  unfold Machine.writeEntry
  simp only
  split
  · exact h.elsewhere.logChains _
  all_goals exact h.elsewhere

theorem leaveEarly (h : KeepsForm s t) : KeepsForm s t.leaveEarly := by
  rw [State.leaveEarly_eq]
  refine enterStandby ?_ _ _
  unfold State.withoutJoinNote
  split
  · exact h.elsewhere
  · exact h

theorem leaveAtFrameEnd (h : KeepsForm s t) : KeepsForm s t.leaveAtFrameEnd := by
  unfold State.leaveAtFrameEnd
  split <;> exact h.elsewhere

theorem leaveAtSegmentEnd (h : KeepsForm s t) : KeepsForm s t.leaveAtSegmentEnd := by
  unfold State.leaveAtSegmentEnd
  split
  · exact h.leaveAtFrameEnd
  · exact h.elsewhere

theorem leaveAtOnce (h : KeepsForm s t) : KeepsForm s t.leaveAtOnce := by
  unfold State.leaveAtOnce State.drain
  split
  · exact h
  · split
    · exact h.elsewhere.finishDrain
    · exact h.elsewhere.enterStandby _ _

/-- READ LOG takes the gap or the oldest record (R166). -/
theorem readLog (h : KeepsForm s t) : KeepsForm s (readLogAction t) := by
  unfold readLogAction
  simp only
  split
  · exact ⟨fun bounded => StationLog.bounded_of_le (h.log bounded) le_rfl (Nat.zero_le _), h.roster⟩
  · split
    · exact h.reply _
    · next r rest queue =>
      refine ⟨fun bounded => StationLog.bounded_of_le (h.log bounded) ?_ le_rfl, h.roster⟩
      rw [queue]
      exact Nat.le_succ _

/-- The commands whose action reaches the log or the roster are the LEAVEs, WRITE PLAN, RESTART and READ LOG; the others
change other parts of the state. -/
theorem portAction (h : KeepsForm s t) (c : Instr) : KeepsForm s (portAction c t) := by
  cases c <;> simp only [Machine.portAction]
  case setProfile image =>
    unfold setProfileAction
    split <;> exact h.elsewhere
  case profileDone =>
    unfold profileDoneAction
    repeat' split
    all_goals exact h.elsewhere
  case writePlan index image =>
    unfold writePlanAction
    repeat' split
    case h_2 => exact (h.writeEntry _ _).reply _
    all_goals exact h.elsewhere
  case readPlan index =>
    unfold readPlanAction
    repeat' split
    all_goals exact h.elsewhere
  case verify =>
    unfold verifyAction
    repeat' split
    all_goals exact h.elsewhere
  case join start =>
    unfold joinAction
    repeat' split
    all_goals exact h.elsewhere
  case leaveFrameEnd =>
    unfold leaveFrameEndAction
    split
    case h_5 | h_6 | h_7 => exact h.leaveEarly.reply _
    case h_8 | h_9 =>
      split
      · exact h.reply _
      all_goals exact h.leaveAtFrameEnd.reply _
    all_goals exact h.reply _
  case leaveSegmentEnd =>
    unfold leaveSegmentEndAction
    split
    case h_5 | h_6 | h_7 => exact h.leaveEarly.reply _
    case h_8 | h_9 =>
      split
      · exact h.reply _
      · exact h.reply _
      · exact h.leaveAtSegmentEnd.reply _
    all_goals exact h.reply _
  case leaveImmediate =>
    unfold leaveImmediateAction
    split
    case h_4 | h_5 | h_6 => exact h.leaveEarly.reply _
    case h_7 | h_8 | h_9 => exact h.leaveAtOnce.reply _
    all_goals exact h.reply _
  case restart => exact ((h.elsewhere.clearRig _ _ _).logChains _).reply _
  case clearFault =>
    unfold clearFaultAction
    split <;> exact h.elsewhere
  case stage start =>
    unfold stageAction
    repeat' split
    all_goals exact h.elsewhere
  case unstage =>
    unfold unstageAction
    split <;> exact h.elsewhere
  case readySwitch | readyKeep =>
    unfold readyAction
    split <;> exact h.elsewhere
  case unready =>
    unfold unreadyAction
    repeat' split
    all_goals exact h.elsewhere
  case readStatus => exact h.elsewhere
  case readLog => exact h.readLog
  case readRoster index =>
    unfold readRosterAction
    repeat' split
    all_goals exact h.elsewhere
  case readGrants =>
    unfold readGrantsAction
    split <;> exact h.elsewhere
  case unassignedCommand code argument =>
    unfold unassignedCommandAction
    split <;> exact h.elsewhere
  all_goals exact h

/-- A command is taken at its tick, waits for one, or is not taken; the port is no part of the log or the roster. -/
theorem handOver (c : Instr) (s : State) : KeepsForm s (s.handOver c (Machine.portAction c)) :=
  State.handOver_elim (refl s) ⟨id, id⟩ ((refl s).portAction c)

theorem handOverImage (size : Nat) (image : List Byte) (c : Instr) (s : State) :
    KeepsForm s (s.handOverImage size image c (Machine.portAction c)) :=
  State.handOverImage_elim (refl s) ⟨id, id⟩ ⟨id, id⟩ ((refl s).portAction c)

theorem refuseByte (s : State) : KeepsForm s s.refuseByte := by
  unfold State.refuseByte
  split <;> exact ⟨id, id⟩

/-- A READ LOG cut short counts what it took as lost (R167). -/
theorem transactionCutShort (cut : CutPoint) (s : State) : KeepsForm s (transactionCutShortEffect cut s) := by
  have loses (taken : LogTaken) (p : Port) : KeepsForm s { s with log := s.log.loseTaken taken, port := p } :=
    ⟨fun bounded => StationLog.loseTaken_bounded bounded taken, id⟩
  unfold transactionCutShortEffect
  cases cut with
  | acrossReset => exact refl s
  | beforeTaken => exact State.endEarly_elim (refl s) ⟨id, id⟩
  | inResult =>
    simp only
    split
    · exact refl s
    · exact loses _ _
  | inData shifted =>
    simp only
    split
    · exact refl s
    · unfold State.loseData
      split
      · exact loses _ _
      · exact ⟨id, id⟩

/-! ### The timebase and the resets -/

theorem timebaseLoss (s : State) : KeepsForm s (timebaseLossEffect s) := by
  unfold timebaseLossEffect State.loseTimebase
  simp only
  split
  · exact refl s
  · split
    · exact ⟨id, id⟩
    · split
      · exact ⟨id, fun _ => rfl⟩
      · split <;> exact ⟨id, id⟩

theorem carryOut (h : KeepsForm s t) (x : Returning) : KeepsForm s (t.carryOut x) := by
  cases x with
  | record r => exact ⟨fun bounded => StationLog.append_bounded (h.log bounded) r, h.roster⟩
  | command c cut =>
    have acted := h.portAction c
    unfold State.carryOut State.takeWaiting
    simp only
    split
    · exact ⟨fun bounded => StationLog.loseTaken_bounded (acted.log bounded) _, acted.roster⟩
    · exact acted

theorem carryOutAll (h : KeepsForm s t) (order : List Returning) : KeepsForm s (order.foldl State.carryOut t) := by
  induction order generalizing t with
  | nil => exact h
  | cons x order ih => exact ih (h.carryOut x)

theorem tclkReturn (s : State) : KeepsForm s (tclkReturnEffect s) := by
  have returned : KeepsForm s s.edgesReturn := ⟨id, id⟩
  unfold tclkReturnEffect
  split
  · split
    · exact returned
    · exact returned.elsewhere.carryOutAll _
  · exact refl s

theorem settleCountComplete (h : KeepsForm s t) : KeepsForm s (settleCountCompleteEffect t) := by
  unfold settleCountCompleteEffect
  split
  · exact h.elsewhere
  · exact h

/-! ### Every step -/

/-- A guarded event keeps what its effect keeps. -/
theorem onTick {f : State → State} (h : KeepsForm s (f s)) : KeepsForm s (s.onTick f) := State.onTick_elim (refl s) h

theorem exec {c : Instr} (h : Machine.exec c s = .next t) : KeepsForm s t := by
  have start := refl s
  cases c <;> obtain rfl := Host.Outcome.next.inj h
  case setProfile | writePlan => exact handOverImage _ _ _ s
  case profileDone | readPlan | verify | join | leaveFrameEnd | leaveSegmentEnd | leaveImmediate | restart | clearFault
    | stage | unstage | readySwitch | readyKeep | unready | readStatus | readLog | readRoster | readGrants =>
    exact handOver _ s
  case unassignedCommand code argument =>
    split
    · exact handOver (.unassignedCommand code argument) s
    · exact refuseByte s
  case transactionCutShort cut => exact transactionCutShort cut s
  case powerOnReset | rstnLow => exact ⟨fun _ => rfl, fun _ => rfl⟩
  case rstnRelease => exact ⟨id, id⟩
  case frameLevelChange high => exact start.frameLevelChange high
  case timebaseLoss => exact timebaseLoss s
  case tclkReturn => exact tclkReturn s
  case verifyWalkConclusion => exact start.verifyWalkConclusion.onTick
  case frameMark => exact onTick (start.toSample.sampleFrame true)
  case participantPull => exact start.participantPull.onTick
  case minFrameTimeElapsed => exact start.minFrameTimeElapsed.onTick
  case holdLimitExpiry => exact start.holdLimitExpiry.onTick
  case stallTimerExpiry => exact start.stallTimerExpiry.onTick
  case listenTimerExpiry => exact start.listenTimerExpiry.onTick
  case foundingPulseEnd => exact start.foundingPulseEnd.onTick
  case searchSpanEnd slot low => exact (start.searchSpanEnd slot low).onTick
  case noteCompletion slot r => exact (start.noteCompletion slot r).onTick
  case ownTransmissionStart => exact start.ownTransmissionStart.onTick
  case ownNoteCompletion levels => exact (start.ownNoteCompletion levels).onTick
  case partingNoteSend => exact start.partingNoteSend.onTick
  case windowEnd => exact start.windowEnd.onTick
  case hcodeWordSent => exact start.hcodeWordSent.onTick
  case exposureStart hrdy => exact (start.exposureStart hrdy).onTick
  case exposureEnd => exact start.exposureEnd.onTick
  case exposuresEnded => exact start.exposuresEnded.onTick
  case strobeDelayEnd channel => exact (start.strobeDelayEnd channel).onTick
  case strobeOnEnd channel => exact (start.strobeOnEnd channel).onTick
  case strobeOffEnd channel => exact (start.strobeOffEnd channel).onTick
  case settleCountComplete => exact start.settleCountComplete.onTick

theorem tick (s : State) : KeepsForm s (Machine.tick s) := by
  rcases tick_cases s with ⟨-, e⟩ | ⟨-, -, e⟩ | ⟨-, -, e⟩ <;> rw [e] <;> exact ⟨id, id⟩

end KeepsForm

/-- Settles O60: no command, event or tick breaks the form of the log or of the roster. -/
theorem everyStepKeepsLogAndRosterInForm : Obligations.EveryStepKeepsLogAndRosterInForm := by
  intro s t next
  have kept : KeepsForm s t := by
    cases queue : s.pending with
    | nil =>
      rw [step_empty queue] at next
      exact Host.Outcome.next.inj next ▸ KeepsForm.tick s
    | cons c rest =>
      rw [step_front c rest s queue] at next
      have dequeued := KeepsForm.exec next
      exact ⟨dequeued.log, dequeued.roster⟩
  exact ⟨kept.log, kept.roster⟩

end Sys2Proof.Machine
end

section
/-! SUPPORT. READ ROSTER, READ GRANTS and READ PLAN: what they deliver, and the fields of their images (O13). -/

namespace Sys2Proof.Machine

/-! ### Fields of an image (11.7) -/

/-- The `n` bits from bit `low` on of byte `i` of an image. -/
def fieldAt (image : List Byte) (i low n : Nat) : Nat := byteAt image i / 2 ^ low % 2 ^ n

theorem flagBit_eq (i : Nat) (b : Bool) : flagBit i b = b.toNat * 2 ^ i := by cases b <;> simp [flagBit]

/-- A byte of a number below 256 holds that number. -/
theorem toNat_byte_of_lt {k : Nat} (h : k < 256) : (byte k).toNat = k := by rw [toNat_byte, Nat.mod_eq_of_lt h]

theorem byteAt_drop (l : List Byte) (k j : Nat) : byteAt (l.drop k) j = byteAt l (k + j) := by
  simp only [byteAt, List.getD_eq_getElem?_getD, List.getElem?_drop]

theorem byteAt_append {l : List Byte} {j : Nat} (h : j < l.length) (m : List Byte) : byteAt (l ++ m) j = byteAt l j := by
  rw [byteAt, List.getD_append _ _ _ _ h, byteAt]

/-- Where a list is laid out in parts of one size, each part stands at its multiple of that size. -/
theorem drop_flatMap_of_length {α β : Type} {f : α → List β} {size : Nat} (h : ∀ x, (f x).length = size) (l : List α)
    (k : Nat) : (l.flatMap f).drop (size * k) = (l.drop k).flatMap f := by
  induction k generalizing l with
  | zero => rfl
  | succ k ih =>
    cases l with
    | nil => simp
    | cons x l => rw [List.flatMap_cons, Nat.mul_succ, Nat.add_comm, ← List.drop_drop, List.drop_left' (h x), ih]; rfl

/-! ### READ ROSTER (R52) -/

section
variable {s : State} {b : Byte} {i : Fin 16}

theorem State.rosterIndex_above (h : 15 < b.toNat) : s.rosterIndex b = none := if_pos (.inl h)

theorem toNat_byte_index (i : Fin 16) : (byte i.val).toNat = i.val := toNat_byte_of_lt (by omega)

theorem State.rosterIndex_beyond (hp : s.profile.isSome = true) (hw : s.prof.width ≤ i.val) :
    s.rosterIndex (byte i.val) = none := by
  refine if_pos (.inr ⟨hp, ?_⟩)
  rw [toNat_byte_index]
  exact hw

theorem State.rosterIndex_inside (h : s.profile = none ∨ i.val < s.prof.width) : s.rosterIndex (byte i.val) = some i := by
  have inside : ¬ (15 < i.val ∨ (s.profile.isSome = true ∧ s.prof.width ≤ i.val)) := by
    rintro (above | ⟨profile, beyond⟩)
    · omega
    · rcases h with unset | below
      · rw [unset] at profile; cases profile
      · omega
  unfold State.rosterIndex
  rw [toNat_byte_index, if_neg inside]
  exact congrArg some (Fin.ext (Nat.mod_eq_of_lt i.isLt))

theorem exec_readRoster (ht : s.ticking = true) (b : Byte) : exec (.readRoster b) s = .next (readRosterAction b s) :=
  State.command_next ht

theorem readRosterAction_range (h : s.rosterIndex b = none) : readRosterAction b s = s.reply .range := by
  unfold readRosterAction
  rw [h]

/-- The own index at a station with an own entry delivers it with the own marker. -/
theorem readRosterAction_own {own : Member} (h : s.rosterIndex b = some i) (ho : s.ownEntry = some own)
    (hi : i = s.prof.index) : readRosterAction b s = s.replyWith .accepted (own.image true) := by
  unfold readRosterAction
  rw [h, ho]
  exact if_pos hi

/-- Any other index, and every index without an own entry, delivers the member entry or EMPTY. -/
theorem readRosterAction_member (h : s.rosterIndex b = some i) (ho : s.ownEntry = none ∨ i ≠ s.prof.index) :
    readRosterAction b s =
      ((s.roster.entry i).map fun m => s.replyWith .accepted (m.image false)).getD (s.reply .empty) := by
  unfold readRosterAction
  simp only [h]
  cases own : s.ownEntry with
  | none => cases s.roster.entry i <;> rfl
  | some o =>
    have other : i ≠ s.prof.index := by
      rcases ho with absent | other
      · rw [own] at absent; cases absent
      · exact other
    cases s.roster.entry i <;> exact if_neg other

end

/-- The own entry as the station's blocks give it, with its state and the frame number last heard (R40). -/
def State.ownAs (s : State) (state : MemberState) (heard : Option FrameNo) : Member :=
  { index := s.prof.index, state, epoch := s.epochs.epoch, ready := s.epochs.ready.isSome
    catchup := decide (s.epochs.turn = .catchingUp), lastHeard := heard, misses := 0, removal := .none, stamp := none
    expected := false }

theorem State.ownEntry_eq (s : State) :
    s.ownEntry = s.membership.state.ownEntry.map fun state =>
      s.ownAs state (if state = .founding then none else some s.barrier.frameNo) := rfl

/-! ### The roster image -/

section
variable (own : Bool) (m : Member)

theorem MemberState.code_lt (x : MemberState) : x.code < 6 := by cases x <;> decide

theorem Removal.code_lt (x : Removal) : x.code < 3 := by cases x <;> decide

theorem Member.image_mark :
    byteAt (m.image own) 0 = own.toNat * 128 + m.expected.toNat * 64 + m.index.val := by
  have ownLe := own.toNat_le
  have expectedLe := m.expected.toNat_le
  change (byte (flagBit 7 own + flagBit 6 m.expected + m.index.val)).toNat = _
  rw [flagBit_eq, flagBit_eq]
  exact toNat_byte_of_lt (by omega)

theorem Member.image_state : byteAt (m.image own) 1 = m.state.code * 32 + m.ready.toNat * 2 + m.catchup.toNat := by
  have state := m.state.code_lt
  have readyLe := m.ready.toNat_le
  have catchupLe := m.catchup.toNat_le
  change (byte (m.state.code * 32 + flagBit 1 m.ready + flagBit 0 m.catchup)).toNat = _
  rw [flagBit_eq, flagBit_eq, toNat_byte_of_lt (by omega)]
  omega

theorem Member.image_presence (h : m.misses ≤ 7) :
    byteAt (m.image own) 4 =
      m.lastHeard.isSome.toNat * 128 + m.stamp.isSome.toNat * 64 + m.removal.code * 16 + m.misses := by
  have removal := m.removal.code_lt
  have heardLe := m.lastHeard.isSome.toNat_le
  have stampLe := m.stamp.isSome.toNat_le
  change (byte (flagBit 7 m.lastHeard.isSome + flagBit 6 m.stamp.isSome + m.removal.code * 16 + m.misses)).toNat = _
  rw [flagBit_eq, flagBit_eq]
  exact toNat_byte_of_lt (by omega)

/-- The marks and the index (byte 0). -/
theorem Member.image_mark_fields :
    (fieldAt (m.image own) 0 7 1 = 1 ↔ own = true) ∧ (fieldAt (m.image own) 0 6 1 = 1 ↔ m.expected = true) ∧
      fieldAt (m.image own) 0 0 4 = m.index.val := by
  have ownLe := own.toNat_le
  have expectedLe := m.expected.toNat_le
  simp only [fieldAt, Member.image_mark, ← Bool.toNat_eq_one]
  omega

/-- The member state and the flags (byte 1). -/
theorem Member.image_state_fields :
    fieldAt (m.image own) 1 5 3 = m.state.code ∧ (fieldAt (m.image own) 1 1 1 = 1 ↔ m.ready = true) ∧
      (fieldAt (m.image own) 1 0 1 = 1 ↔ m.catchup = true) := by
  have state := m.state.code_lt
  have readyLe := m.ready.toNat_le
  have catchupLe := m.catchup.toNat_le
  simp only [fieldAt, Member.image_state, ← Bool.toNat_eq_one]
  omega

/-- The present bits, the removal pending and the miss count (byte 4). -/
theorem Member.image_presence_fields (h : m.misses ≤ 7) :
    (fieldAt (m.image own) 4 7 1 = 1 ↔ m.lastHeard.isSome = true) ∧
      (fieldAt (m.image own) 4 6 1 = 1 ↔ m.stamp.isSome = true) ∧
      fieldAt (m.image own) 4 4 2 = m.removal.code ∧ fieldAt (m.image own) 4 0 3 = m.misses := by
  have removal := m.removal.code_lt
  have heardLe := m.lastHeard.isSome.toNat_le
  have stampLe := m.stamp.isSome.toNat_le
  simp only [fieldAt, Member.image_presence own m h, ← Bool.toNat_eq_one]
  omega

theorem Member.image_lastHeard {frame : FrameNo} (h : m.lastHeard = some frame) :
    ((m.image own).drop 5).take 4 = bytes4 frame.toNat := by
  change frameBytes m.lastHeard = _
  rw [h]
  rfl

theorem Member.image_stamp {frame : FrameNo} {epoch : EpochNo} (h : m.stamp = some (frame, epoch)) :
    ((m.image own).drop 9).take 4 = bytes4 frame.toNat ∧ ((m.image own).drop 13).take 2 = bytes2 epoch.toNat := by
  change frameBytes (m.stamp.map fun p => p.1) = _ ∧ bytes2 ((m.stamp.map fun p => p.2.toNat).getD 0) = _
  rw [h]
  exact ⟨rfl, rfl⟩

theorem Member.image_last : fieldAt (m.image own) 15 0 8 = 0 := by
  have last : byteAt (m.image own) 15 = 0 := rfl
  rw [fieldAt, last, Nat.zero_div, Nat.zero_mod]

end

/-! ### The grants image (R69) -/

theorem exec_readGrants {s : State} (ht : s.ticking = true) : exec .readGrants s = .next (readGrantsAction s) :=
  State.command_next ht

theorem readGrantsAction_held {s : State} {t : GrantTable} (h : s.resolver.table = some t) :
    readGrantsAction s = s.replyWith .accepted (s.grantsImage t) := by
  unfold readGrantsAction
  rw [h]

theorem readGrantsAction_empty {s : State} (h : s.resolver.table = none) : readGrantsAction s = s.reply .empty := by
  unfold readGrantsAction
  rw [h]

section
variable (own : Fin 16) (e : LaneEntry)

theorem LaneEntry.image_length : (e.image own).length = 4 := by
  unfold LaneEntry.image
  cases e.winner <;> rfl

/-- The first two bytes of a lane: the winner and the winning priority, each behind its present bit, and the own claim. -/
theorem LaneEntry.image_fields :
    (fieldAt (e.image own) 0 7 1 = 1 ↔ e.winner.isSome = true) ∧
      (fieldAt (e.image own) 1 7 1 = 1 ↔ e.winner.isSome = true) ∧
      (fieldAt (e.image own) 1 6 1 = 1 ↔ e.claimants.getLsbD own.val = true) ∧
      ∀ station priority, e.winner = some (station, priority) →
        fieldAt (e.image own) 0 0 4 = station.val ∧ fieldAt (e.image own) 1 0 2 = priority.val := by
  have claimsLe := (e.claimants.getLsbD own.val).toNat_le
  have claims := flagBit_eq 6 (e.claimants.getLsbD own.val)
  simp only [fieldAt, ← Bool.toNat_eq_one]
  cases h : e.winner with
  | none =>
    have first : byteAt (e.image own) 0 = 0 := by rw [LaneEntry.image, h]; rfl
    have second : byteAt (e.image own) 1 = (e.claimants.getLsbD own.val).toNat * 64 := by
      rw [LaneEntry.image, h, claims]
      exact toNat_byte_of_lt (by omega)
    rw [first, second, Option.isSome_none, Bool.toNat_false]
    exact ⟨by omega, by omega, by omega, fun station priority won => nomatch won⟩
  | some w =>
    obtain ⟨index, priority⟩ := w
    have first : byteAt (e.image own) 0 = 128 + index.val := by
      rw [LaneEntry.image, h]
      exact toNat_byte_of_lt (by omega)
    have second : byteAt (e.image own) 1 = 128 + (e.claimants.getLsbD own.val).toNat * 64 + priority.val := by
      rw [LaneEntry.image, h, claims]
      exact toNat_byte_of_lt (by omega)
    rw [first, second, Option.isSome_some, Bool.toNat_true]
    refine ⟨by omega, by omega, by omega, fun station priority' won => ?_⟩
    cases won
    omega

theorem LaneEntry.image_claimants : (e.image own).drop 2 = bytes2 e.claimants.toNat := by
  unfold LaneEntry.image
  cases e.winner <;> rfl

end

section
variable (t : GrantTable) (s : State)

/-- The grants image ahead of its lanes. -/
def State.grantsHead (t : GrantTable) (s : State) : List Byte :=
  bytes4 t.frame.toNat
    ++ [byte (flagBit 7 t.complete + flagBit 6 s.resolver.turnMark + flagBit 5 s.resolver.inUseFrame.isSome)]
    ++ frameBytes s.resolver.inUseFrame ++ [byte s.resolver.inUse.toNat]

theorem State.grantsImage_eq :
    s.grantsImage t = s.grantsHead t ++ t.lanes.toList.flatMap (LaneEntry.image s.prof.index) := rfl

theorem State.grantsImage_length : (s.grantsImage t).length = 42 := by
  have lanes : (t.lanes.toList.flatMap (LaneEntry.image s.prof.index)).length = 32 := by
    simp [List.length_flatMap, LaneEntry.image_length]
  rw [State.grantsImage_eq, List.length_append, lanes]
  rfl

/-- The view mark, the turn mark and the present bit of the in-use frame (byte 4). -/
theorem State.grantsImage_marks :
    (fieldAt (s.grantsImage t) 4 7 1 = 1 ↔ t.complete = true) ∧
      (fieldAt (s.grantsImage t) 4 6 1 = 1 ↔ s.resolver.turnMark = true) ∧
      (fieldAt (s.grantsImage t) 4 5 1 = 1 ↔ s.resolver.inUseFrame.isSome = true) := by
  have completeLe := t.complete.toNat_le
  have turnLe := s.resolver.turnMark.toNat_le
  have inUseLe := s.resolver.inUseFrame.isSome.toNat_le
  have marks : byteAt (s.grantsImage t) 4 =
      t.complete.toNat * 128 + s.resolver.turnMark.toNat * 64 + s.resolver.inUseFrame.isSome.toNat * 32 := by
    change (byte (flagBit 7 t.complete + flagBit 6 s.resolver.turnMark +
      flagBit 5 s.resolver.inUseFrame.isSome)).toNat = _
    rw [flagBit_eq, flagBit_eq, flagBit_eq]
    exact toNat_byte_of_lt (by omega)
  simp only [fieldAt, marks, ← Bool.toNat_eq_one]
  omega

theorem State.grantsImage_inUseFrame {frame : FrameNo} (h : s.resolver.inUseFrame = some frame) :
    ((s.grantsImage t).drop 5).take 4 = bytes4 frame.toNat := by
  change frameBytes s.resolver.inUseFrame = _
  rw [h]
  rfl

theorem State.grantsImage_inUse : (s.grantsImage t).getD 9 0 = s.resolver.inUse := by
  change BitVec.ofNat 8 s.resolver.inUse.toNat = _
  rw [BitVec.ofNat_toNat, BitVec.setWidth_eq]

/-- A lane's four bytes stand in their place. -/
theorem State.grantsImage_lane (lane : Fin 8) :
    ∃ rest, (s.grantsImage t).drop (10 + 4 * lane.val) = (t.lanes.get lane).image s.prof.index ++ rest := by
  have place : lane.val < t.lanes.toList.length := by rw [Vector.length_toList]; exact lane.isLt
  have entry : t.lanes.toList[lane.val] = t.lanes.get lane := by simp [Vector.get]
  rw [State.grantsImage_eq, ← List.drop_drop, List.drop_left' (by rfl),
    drop_flatMap_of_length (LaneEntry.image_length s.prof.index), List.drop_eq_getElem_cons place, List.flatMap_cons, entry]
  exact ⟨_, rfl⟩

/-- The fields of a lane are those of its entry. -/
theorem State.grantsImage_lane_field (lane : Fin 8) {j : Nat} (h : j < 4) (low n : Nat) :
    fieldAt (s.grantsImage t) (10 + 4 * lane.val + j) low n = fieldAt ((t.lanes.get lane).image s.prof.index) j low n := by
  obtain ⟨rest, lanes⟩ := s.grantsImage_lane t lane
  rw [fieldAt, fieldAt, ← byteAt_drop, lanes, byteAt_append (by rw [LaneEntry.image_length]; exact h)]

theorem State.grantsImage_lane_claimants (lane : Fin 8) :
    ((s.grantsImage t).drop (10 + 4 * lane.val + 2)).take 2 = bytes2 (t.lanes.get lane).claimants.toNat := by
  obtain ⟨rest, lanes⟩ := s.grantsImage_lane t lane
  rw [← List.drop_drop, lanes, List.drop_append_of_le_length (by rw [LaneEntry.image_length]; decide),
    LaneEntry.image_claimants]
  rfl

end

/-! ### READ PLAN (R110) -/

theorem exec_readPlan {s : State} (ht : s.ticking = true) (b : Byte) :
    exec (.readPlan b) s = .next (readPlanAction b s) := State.command_next ht

theorem entryIndex_above {b : Byte} (h : 63 < b.toNat) : entryIndex b = none := if_neg (Nat.not_lt.2 h)

theorem entryIndex_byte (e : Fin 64) : entryIndex (byte e.val) = some e := by
  have value : (byte e.val).toNat = e.val := toNat_byte_of_lt (by omega)
  rw [entryIndex, value, if_pos e.isLt]
  exact congrArg some (Fin.ext (Nat.mod_eq_of_lt e.isLt))

theorem readPlanAction_range {s : State} {b : Byte} (h : entryIndex b = none) : readPlanAction b s = s.reply .range := by
  unfold readPlanAction
  rw [h]

theorem readPlanAction_empty {s : State} {e : Fin 64} (h : s.plan? e = none) :
    readPlanAction (byte e.val) s = s.reply .empty := by
  unfold readPlanAction
  simp only [entryIndex_byte, h]

theorem readPlanAction_plan {s : State} {e : Fin 64} {p : Plan} (h : s.plan? e = some p) :
    readPlanAction (byte e.val) s = s.replyWith .accepted (p.encode ++ [if s.live e then 1 else 0]) := by
  unfold readPlanAction
  simp only [entryIndex_byte, h]

theorem encodeSlot_length (slot : Option StrobeRecord) : (encodeSlot slot).length = 12 := by
  cases slot <;> rfl

theorem Link.encode_length (link : Link) : link.encode.length = 3 := by cases link <;> rfl

theorem Plan.encode_length (p : Plan) : p.encode.length = 72 := by
  simp [Plan.encode, encodeSlot_length, Link.encode_length, bytes2, bytes3]

/-- Settles O13: the three reads change the reply alone, and their images hold each field at its place. -/
theorem readsOfRosterGrantsAndPlansReturnTheirImages : Obligations.ReadsOfRosterGrantsAndPlansReturnTheirImages := by
  refine ⟨fun i s ht => ⟨fun b above => ?_, fun profile beyond => ?_, fun inside => ⟨?_, ?_, ?_⟩, ?_, fun own m => ?_,
    fun t table => ?_, fun empty => ?_⟩, fun e s ht => ⟨fun b above => ?_, fun empty => ?_, fun p plan => ⟨?_, ?_⟩⟩⟩
  · rw [exec_readRoster ht, readRosterAction_range (State.rosterIndex_above above)]
  · rw [exec_readRoster ht, readRosterAction_range (State.rosterIndex_beyond profile beyond)]
  · intro own held same
    rw [exec_readRoster ht, readRosterAction_own (State.rosterIndex_inside inside) held same]
  · intro other m member
    rw [exec_readRoster ht, readRosterAction_member (State.rosterIndex_inside inside) other, member]
    rfl
  · intro other member
    rw [exec_readRoster ht, readRosterAction_member (State.rosterIndex_inside inside) other, member]
    rfl
  · intro entry
    rw [State.ownEntry_eq]
    cases s.membership.state <;> rfl
  · obtain ⟨ownMark, expected, index⟩ := m.image_mark_fields own
    obtain ⟨state, ready, catchup⟩ := m.image_state_fields own
    refine ⟨rfl, ownMark, expected, index, state.trans ?_, ready, catchup, rfl, fun misses => ?_,
      fun frame => m.image_lastHeard own, fun frame epoch => m.image_stamp own, m.image_last own⟩
    · cases m.state <;> rfl
    · obtain ⟨heard, stamp, removal, count⟩ := m.image_presence_fields own misses
      refine ⟨heard, stamp, removal.trans ?_, count⟩
      cases m.removal <;> rfl
  · obtain ⟨view, turn, inUse⟩ := s.grantsImage_marks t
    refine ⟨by rw [exec_readGrants ht, readGrantsAction_held table], s.grantsImage_length t, rfl, view, turn, inUse,
      fun frame => s.grantsImage_inUseFrame t, fun l => by rw [s.grantsImage_inUse t], fun lane => ?_⟩
    obtain ⟨winner, priority, claimant, held⟩ := (t.lanes.get lane).image_fields s.prof.index
    have first (low n : Nat) := s.grantsImage_lane_field t lane (j := 0) (by decide) low n
    have second (low n : Nat) := s.grantsImage_lane_field t lane (j := 1) (by decide) low n
    simp only [← first, ← second] at winner priority claimant held
    exact ⟨winner, priority, claimant, held, s.grantsImage_lane_claimants t lane⟩
  · rw [exec_readGrants ht, readGrantsAction_empty empty]
  · rw [exec_readPlan ht, readPlanAction_range (entryIndex_above above)]
  · rw [exec_readPlan ht, readPlanAction_empty empty]
  · rw [exec_readPlan ht, readPlanAction_plan plan]
  · exact p.encode_length

end Sys2Proof.Machine
end

section
/-! SUPPORT. Which lanes are granted, and what a mark's generators make of them (R62, R63, R150). -/

namespace Sys2Proof.Machine

/-! ### The in-use set (R62) -/

theorem getLsbD_one_shift_lane : ∀ l k : Fin 8, (1#8 <<< k.val).getLsbD l.val = true ↔ l = k := by decide

/-- The generator holds a GRANTED record on a lane. -/
def Generator.Grants (g : Generator) (lane : Fin 8) : Prop :=
  ∃ r, g.record = some r ∧ r.lane = some lane ∧ g.decision = some .granted

/-- The in-use set with one generator's lane counted in. -/
def Generator.addGranted (set : LaneSet) (g : Generator) : LaneSet :=
  match g.record.bind StrobeRecord.lane, g.decision with
  | some lane, some .granted => set ||| (1#8 <<< lane.val)
  | some _, some .unarbitrated | some _, some (.denied _) | some _, none | none, _ => set

theorem grantedLanes_eq (gens : Vector Generator 4) : grantedLanes gens = gens.toList.foldl Generator.addGranted 0 := rfl

theorem Generator.getLsbD_addGranted (set : LaneSet) (g : Generator) (l : Fin 8) :
    (g.addGranted set).getLsbD l.val = true ↔ set.getLsbD l.val = true ∨ g.Grants l := by
  unfold Generator.addGranted
  split
  · next lane hl hd =>
    obtain ⟨r, hr, hlane⟩ := Option.bind_eq_some_iff.1 hl
    rw [BitVec.getLsbD_or, Bool.or_eq_true, getLsbD_one_shift_lane]
    refine or_congr_right ⟨fun e => ⟨r, hr, e ▸ hlane, hd⟩, fun ⟨r', hr', hlane', _⟩ => ?_⟩
    cases hr.symm.trans hr'
    exact Option.some.inj (hlane'.symm.trans hlane)
  all_goals
    refine (or_iff_left fun ⟨r, hr, hlane, hd⟩ => ?_).symm
    simp_all

theorem getLsbD_foldl_addGranted (gens : List Generator) (set : LaneSet) (l : Fin 8) :
    (gens.foldl Generator.addGranted set).getLsbD l.val = true ↔
      set.getLsbD l.val = true ∨ ∃ g ∈ gens, g.Grants l := by
  induction gens generalizing set with
  | nil => simp
  | cons g rest ih => rw [List.foldl_cons, ih, Generator.getLsbD_addGranted, List.exists_mem_cons_iff, or_assoc]

theorem vector_mem_toList_iff {α : Type} {n : Nat} (v : Vector α n) (x : α) : x ∈ v.toList ↔ ∃ c, v.get c = x := by
  rw [Vector.mem_toList_iff, Vector.mem_iff_getElem]
  exact ⟨fun ⟨i, hi, e⟩ => ⟨⟨i, hi⟩, e⟩, fun ⟨c, e⟩ => ⟨c.val, c.isLt, e⟩⟩

/-- The in-use set holds exactly the lanes of the GRANTED records. -/
theorem getLsbD_grantedLanes (gens : Vector Generator 4) (l : Fin 8) :
    (grantedLanes gens).getLsbD l.val = true ↔ ∃ c, (gens.get c).Grants l := by
  rw [grantedLanes_eq, getLsbD_foldl_addGranted]
  simp only [vector_mem_toList_iff, BitVec.ofNat_eq_ofNat, BitVec.getLsbD_zero, Bool.false_eq_true, false_or,
    exists_exists_eq_and]

/-! ### Decisions (R63) -/

/-- Only a record that names a lane can be granted. -/
theorem State.lane_of_granted {s : State} {frame : FrameNo} {turn : Bool} {r : StrobeRecord}
    (h : s.decideRecord frame turn r = .granted) : ∃ lane, r.lane = some lane := by
  cases hl : r.lane with
  | some lane => exact ⟨lane, rfl⟩
  | none => rw [State.decideRecord_private hl] at h; cases h

/-- Only a record without a lane is PRIVATE. -/
theorem State.lane_of_unarbitrated {s : State} {frame : FrameNo} {turn : Bool} {r : StrobeRecord}
    (h : s.decideRecord frame turn r = .unarbitrated) : r.lane = none := by
  cases hl : r.lane with
  | none => rfl
  | some lane =>
    unfold State.decideRecord at h
    simp only [hl] at h
    repeat' split at h
    all_goals cases h

/-- An idle generator is lawful whatever lanes are in use. -/
theorem Generator.lawful_idle (inUse : LaneSet) : ({} : Generator).lawful inUse = true := rfl

/-- The generators of a mark are lawful under the in-use set that the mark computes from them. -/
theorem State.loadGenerators_lawful (s : State) (frame : FrameNo) (turn : Bool) (content : Content) (c : Fin 4) :
    ((s.loadGenerators frame turn content).get c).lawful (grantedLanes (s.loadGenerators frame turn content)) = true := by
  cases hc : s.channelRecord content c with
  | none => rw [State.loadGenerators_idle hc]; exact Generator.lawful_idle _
  | some r =>
    obtain ⟨p, hp, channel⟩ := Option.bind_eq_some_iff.1 hc
    have loads := State.loadGenerators_loads hp channel frame turn
    obtain ⟨record, decision⟩ := Generator.load_record s.now p.dark r (s.decideRecord frame turn r)
    rw [← loads] at record decision
    have granted (h : s.decideRecord frame turn r = .granted) :
        ∃ lane, r.lane = some lane ∧ (grantedLanes (s.loadGenerators frame turn content)).getLsbD lane.val = true := by
      obtain ⟨lane, hl⟩ := State.lane_of_granted h
      exact ⟨lane, hl, (getLsbD_grantedLanes _ _).2 ⟨c, r, record, hl, decision.trans (congrArg some h)⟩⟩
    rw [loads]
    exact Generator.load_lawful _ _ _ _ granted State.lane_of_unarbitrated

end Sys2Proof.Machine
end

section
/-! SUPPORT. The lawful use of light lanes: every command, event and tick keeps it (O59). -/

namespace Sys2Proof.Machine

/-! ### One generator -/

/-- The change keeps a generator lawful, whatever lanes are in use. -/
def KeepsLawful (f : Generator → Generator) : Prop :=
  ∀ (inUse : LaneSet) (g : Generator), g.lawful inUse = true → (f g).lawful inUse = true

theorem cutNow_keepsLawful : KeepsLawful Generator.cutNow := fun _ _ => Generator.cutNow_lawful

theorem leaveCut_keepsLawful : KeepsLawful Generator.leaveCut := fun _ _ => Generator.leaveCut_lawful

theorem Generator.running_of_waitsOn {g : Generator} {refs : List Reference} (h : g.waitsOn refs = true) :
    g.settled = false := by
  simp only [Generator.waitsOn, Bool.and_eq_true, beq_iff_eq] at h
  simp [Generator.settled, h.1]

/-- A record that waits for a reference that does not come is not a denied one. -/
theorem endUnrun_keepsLawful (refs : List Reference) :
    KeepsLawful fun g => if g.waitsOn refs then g.endUnrun else g := by
  intro inUse g lawful
  dsimp only
  split
  · next waits => exact Generator.lawful_of_active (g := g) rfl rfl (Generator.running_of_waitsOn waits) lawful
  · exact lawful

theorem handReference_keepsLawful (ref : Reference) (t : Nat) :
    KeepsLawful fun g => if g.waitsOn [ref] then g.takeReference t else g := by
  intro inUse g lawful
  dsimp only
  split
  · exact Generator.takeReference_lawful t lawful
  · exact lawful

theorem Generator.enterOn_lawful {inUse : LaneSet} {g : Generator} (t : Nat) (running : g.settled = false)
    (h : g.lawful inUse = true) : (g.enterOn t).lawful inUse = true :=
  Generator.lawful_of_active (g := g) rfl rfl running h

theorem Generator.endOn_lawful {inUse : LaneSet} {g : Generator} (t : Nat) (running : g.settled = false)
    (h : g.lawful inUse = true) : (g.endOn t).lawful inUse = true := by
  unfold Generator.endOn
  split <;> exact Generator.lawful_of_active (g := g) rfl rfl running h

theorem Generator.endOnDraining_lawful {inUse : LaneSet} {g : Generator} (running : g.settled = false)
    (h : g.lawful inUse = true) : g.endOnDraining.lawful inUse = true := by
  unfold Generator.endOnDraining
  split
  · exact Generator.lawful_of_active (g := g) rfl rfl running h
  · exact Generator.cutNow_lawful h

/-- A generator whose phase runs to an end is not settled. -/
theorem State.running_of_phaseEnd {s : State} {channel : Fin 4} {x : StrobePhase} {t : Nat}
    (h : s.phaseEndOf channel x = some t) (hx : x ≠ .done ∧ x ≠ .cut) :
    (s.generators.get channel).settled = false := by
  unfold State.phaseEndOf at h
  dsimp only at h
  split at h
  · next phase => simp [Generator.settled, phase, hx]
  · cases h

/-- Light on a lane is a granted record's: a denied one never leaves DONE, a PRIVATE one names no lane (R62, R63, R151). -/
theorem Generator.inUse_of_output {inUse : LaneSet} {g : Generator} {lane : Fin 8} (lawful : g.lawful inUse = true)
    (on : g.output = true) (hl : g.record.bind StrobeRecord.lane = some lane) : inUse.getLsbD lane.val = true := by
  obtain ⟨r, record, hlane⟩ := Option.bind_eq_some_iff.1 hl
  have phase : g.phase = .on := by simpa [Generator.output] using on
  unfold Generator.lawful at lawful
  cases decision : g.decision with
  | none => simp [record, decision] at lawful
  | some d =>
    cases d with
    | granted => simpa [record, decision, hlane] using lawful
    | unarbitrated => simp [record, decision, hlane] at lawful
    | denied reason => simp [record, decision, phase] at lawful

/-! ### The station -/

/-- The generators, and the lanes that are in use. -/
def State.lanes (s : State) : Vector Generator 4 × LaneSet := (s.generators, s.resolver.inUse)

/-- Every generator uses its lane lawfully (`State.lanesLawful`). -/
def LawfulLanes (s : State) : Prop := ∀ c, (s.generators.get c).lawful s.resolver.inUse = true

theorem State.lanesLawful_iff (s : State) : s.lanesLawful = true ↔ LawfulLanes s := vector_all_iff _ _

theorem State.inUse_of_drivesLane {s : State} (h : LawfulLanes s) {lane : Fin 8} (drives : s.drivesLane lane = true) :
    s.resolver.inUse.getLsbD lane.val = true := by
  obtain ⟨c, light⟩ := (vector_any_iff _ _).1 drives
  rw [Bool.and_eq_true, beq_iff_eq] at light
  exact Generator.inUse_of_output (h c) light.1 light.2

namespace LawfulLanes
variable {s t : State}

/-- A change of other parts of the state. -/
theorem elsewhere (h : LawfulLanes s) (same : t.lanes = s.lanes) : LawfulLanes t := by
  obtain ⟨generators, inUse⟩ := Prod.mk.inj same
  intro c
  rw [generators, inUse]
  exact h c

/-- With every generator at rest no lane is used. -/
theorem idle (generators : s.generators = Vector.replicate 4 {}) : LawfulLanes s := by
  intro c
  rw [generators, get_idleGenerators]
  exact Generator.lawful_idle _

/-! ### The shared operations -/

theorem advanceTo (h : LawfulLanes s) (tick : Nat) : LawfulLanes (s.advanceTo tick) := h.elsewhere (by rfl)

theorem reply (h : LawfulLanes s) (code : ResultCode) : LawfulLanes (s.reply code) := h.elsewhere (by rfl)

theorem logChains (h : LawfulLanes s) (chains : List (List Record)) : LawfulLanes (s.logChains chains) :=
  h.elsewhere (by rfl)

theorem enterStandby (frame : Option Bool) (chains : List (List Record)) (s : State) :
    LawfulLanes (s.enterStandby frame chains) := idle rfl

theorem detach (h : LawfulLanes s) (cause : FaultCause) (chains : List (List Record)) :
    LawfulLanes (s.detach cause chains) := by
  rcases State.detach_eq cause chains s with ⟨-, e⟩ | ⟨-, e⟩ <;> rw [e]
  · exact idle rfl
  · exact h.logChains _

theorem finish (h : LawfulLanes s) (chains : List (List Record)) : LawfulLanes (s.finish chains) := by
  rcases State.finish_cases chains s with ⟨-, -, -, e⟩ | ⟨-, -, -, e⟩ | ⟨-, e⟩ <;> rw [e]
  · exact enterStandby _ _ _
  · exact h.elsewhere (by rfl)
  · exact h.logChains _

theorem finishDrain (h : LawfulLanes s) : LawfulLanes s.finishDrain := by
  rcases State.finishDrain_cases s with ⟨-, e⟩ | ⟨-, e⟩ <;> rw [e]
  · exact h
  · exact enterStandby _ _ _

theorem mapGenerators (h : LawfulLanes s) {f : Generator → Generator} (hf : KeepsLawful f) :
    LawfulLanes (s.mapGenerators f) := by
  intro c
  change ((s.generators.map f).get c).lawful _ = true
  rw [vector_get_map]
  exact hf _ _ (h c)

theorem setGenerator (h : LawfulLanes s) (channel : Fin 4) {g : Generator}
    (hg : g.lawful s.resolver.inUse = true) : LawfulLanes (s.setGenerator channel g) := by
  intro c
  by_cases hc : c = channel
  · rw [hc, State.setGenerator_get]
    exact hg
  · rw [State.setGenerator_get_other hc]
    exact h c

theorem concludeSlot (h : LawfulLanes s) (slot : Fin 16) (o : SlotOutcome) : LawfulLanes (s.concludeSlot slot o) := by
  rw [State.concludeSlot_frame]
  exact h.elsewhere (by rfl)

/-! ### The window end -/

/-- A window end computes a new table and leaves the in-use set (R58, R62). -/
theorem afterHandoff (h : LawfulLanes s) : LawfulLanes s.afterHandoff := by
  have inUse := s.resolverAtEnd_keeps.2.2
  unfold State.afterHandoff
  rcases State.cursorAtEnd_cases _ s with e | ⟨content, e⟩ <;> rw [e] <;> exact h.elsewhere (Prod.ext rfl inUse)

theorem handoff (h : LawfulLanes s) : LawfulLanes s.handoff := by
  unfold State.handoff
  split
  · exact h.detach _ _
  · exact h.afterHandoff.finish _

theorem closeEarly (h : LawfulLanes s) : LawfulLanes s.closeEarly := by
  unfold State.closeEarly
  split
  · exact (h.elsewhere (by rfl)).handoff
  · exact h

theorem windowEnd (h : LawfulLanes s) : LawfulLanes (windowEndEffect s) := by
  unfold windowEndEffect
  split
  · exact (h.advanceTo _).handoff
  · exact h

/-! ### The mark -/

/-- The flush frame applies no plan (R78, R79, R150). -/
theorem startFlush_not_apply (founder : Bool) (s : State) (e : Fin 64) :
    (s.startFlush founder).cursor.current.getD .idle ≠ .apply e := by
  unfold State.startFlush
  dsimp only
  split <;> rw [State.makeCurrent_current] <;> nofun

/-- A frame begun loads its generators together with the in-use set; the mark of a JOINING station, which leaves that set
as it stands, loads none (R57, R62, R150). -/
theorem beginFrame (start : FrameStart) (s : State) : LawfulLanes (s.beginFrame start) := by
  obtain ⟨m, c, e, transit⟩ := s.startFrame_transit start (s.frameAtMark start)
  have begun : LawfulLanes (s.begun start m c e) := by
    cases start with
    | joining =>
      have content := startFlush_not_apply false s
      rw [show s.startFlush false = s.transit m c e from transit] at content
      exact idle (State.loadGenerators_of_not_apply content _ _ s)
    | founding => exact s.loadGenerators_lawful _ _ _
    | next => exact s.loadGenerators_lawful _ _ _
  rw [State.beginFrame_eq transit]
  exact begun.logChains _

theorem takeMark (h : LawfulLanes s) : LawfulLanes s.takeMark := by
  have closed : LawfulLanes
      { s with barrier := { s.barrier with lows := 0, highs := 0, sampled := true, marked := true } }.closeEarly :=
    (h.elsewhere (by rfl)).closeEarly
  unfold State.takeMark
  dsimp only
  split
  · exact closed.elsewhere (by rfl)
  · exact beginFrame _ _
  · exact beginFrame _ _
  · exact beginFrame _ _
  · exact beginFrame _ _
  · exact beginFrame _ _
  · exact closed

theorem sampleFrame (h : LawfulLanes s) (high : Bool) : LawfulLanes (s.toSample.sampleFrame high) := by
  have sampled : LawfulLanes { s.toSample with frameIn := high } := by
    unfold State.toSample
    split <;> exact h.elsewhere (by rfl)
  unfold State.sampleFrame
  dsimp only
  split
  · exact sampled.takeMark
  · exact sampled.elsewhere (by rfl)

theorem frameLevelChange (h : LawfulLanes s) (high : Bool) : LawfulLanes (frameLevelChangeEffect high s) := by
  unfold frameLevelChangeEffect
  split
  · exact h.sampleFrame high
  · exact h.elsewhere (by rfl)

/-! ### The timers of a frame -/

theorem participantPull (h : LawfulLanes s) : LawfulLanes (participantPullEffect s) := by
  unfold participantPullEffect
  split <;> exact h.elsewhere (by rfl)

theorem minFrameTimeElapsed (h : LawfulLanes s) : LawfulLanes (minFrameTimeElapsedEffect s) := by
  unfold minFrameTimeElapsedEffect
  split
  · split
    · exact (h.elsewhere (by rfl)).finish _
    · exact h
  · exact h

/-- A forced release cuts what runs (R153). -/
theorem forcedRelease (h : LawfulLanes s) : LawfulLanes s.forcedRelease := by
  have cut : LawfulLanes s.cutGenerators := h.mapGenerators cutNow_keepsLawful
  unfold State.forcedRelease State.releaseFrame
  dsimp only
  split
  · exact enterStandby _ _ _
  · split
    · exact enterStandby _ _ _
    · exact cut.elsewhere (by rfl)

theorem holdLimitExpiry (h : LawfulLanes s) : LawfulLanes (holdLimitExpiryEffect s) := by
  unfold holdLimitExpiryEffect
  split
  · split
    · exact (h.advanceTo _).forcedRelease
    · exact h
  · exact h

theorem stallTimerExpiry (h : LawfulLanes s) : LawfulLanes (stallTimerExpiryEffect s) := by
  unfold stallTimerExpiryEffect
  split
  · split <;> exact h.elsewhere (by rfl)
  · exact h

theorem listenTimerExpiry (h : LawfulLanes s) : LawfulLanes (listenTimerExpiryEffect s) := by
  unfold listenTimerExpiryEffect
  split
  · split <;> exact h.elsewhere (by rfl)
  · exact h

theorem foundingPulseEnd (h : LawfulLanes s) : LawfulLanes (foundingPulseEndEffect s) := by
  unfold foundingPulseEndEffect
  split
  · split <;> exact h.elsewhere (by rfl)
  · exact h

/-! ### Exposures and strobes -/

theorem hcodeWordSent (h : LawfulLanes s) : LawfulLanes (hcodeWordSentEffect s) := by
  unfold hcodeWordSentEffect
  split <;> exact h.elsewhere (by rfl)

theorem handReference (h : LawfulLanes s) (ref : Reference) (tick : Nat) : LawfulLanes (s.handReference ref tick) :=
  h.mapGenerators (handReference_keepsLawful ref tick)

theorem dropReferences (h : LawfulLanes s) (refs : List Reference) : LawfulLanes (s.dropReferences refs) :=
  h.mapGenerators (endUnrun_keepsLawful refs)

theorem exposureStart (h : LawfulLanes s) (hrdy : Bool) : LawfulLanes (exposureStartEffect hrdy s) := by
  unfold exposureStartEffect
  split
  · dsimp only
    split
    · unfold State.beginExposure
      dsimp only
      split
      · exact (h.elsewhere (by rfl)).handReference _ _
      · exact h.elsewhere (by rfl)
    · unfold State.skipExposure
      exact (((h.elsewhere (by rfl)).dropReferences _).elsewhere (by rfl)).finish _
  · exact h

theorem exposureEnd (h : LawfulLanes s) : LawfulLanes (exposureEndEffect s) := by
  unfold exposureEndEffect
  split
  · dsimp only
    split
    · exact (h.elsewhere (by rfl)).handReference _ _
    · exact h.elsewhere (by rfl)
  · exact h

theorem exposuresEnded (h : LawfulLanes s) : LawfulLanes (exposuresEndedEffect s) := by
  unfold exposuresEndedEffect
  split
  · exact (h.elsewhere (by rfl)).finish _
  · exact h

theorem strobeDelayEnd (h : LawfulLanes s) (channel : Fin 4) : LawfulLanes (strobeDelayEndEffect channel s) := by
  unfold strobeDelayEndEffect
  split
  · next ends =>
    have running := State.running_of_phaseEnd ends (by decide)
    exact (h.advanceTo _).setGenerator channel (Generator.enterOn_lawful _ running (h channel))
  · exact h

theorem strobeOffEnd (h : LawfulLanes s) (channel : Fin 4) : LawfulLanes (strobeOffEndEffect channel s) := by
  unfold strobeOffEndEffect
  split
  · next ends =>
    have running := State.running_of_phaseEnd ends (by decide)
    exact (h.advanceTo _).setGenerator channel (Generator.enterOn_lawful _ running (h channel))
  · exact h

theorem strobeOnEnd (h : LawfulLanes s) (channel : Fin 4) : LawfulLanes (strobeOnEndEffect channel s) := by
  unfold strobeOnEndEffect
  split
  · next tick ends =>
    have running := State.running_of_phaseEnd ends (by decide)
    dsimp only
    split
    · exact ((h.advanceTo tick).setGenerator channel (Generator.endOnDraining_lawful running (h channel))).finishDrain
    · have ended := (h.advanceTo tick).setGenerator channel (Generator.endOn_lawful tick running (h channel))
      exact (ended.elsewhere (by rfl)).finish _
  · exact h

/-! ### Notes and the verify walk -/

theorem searchSpanEnd (h : LawfulLanes s) (slot : Fin 16) (low : Bool) : LawfulLanes (searchSpanEndEffect slot low s) := by
  unfold searchSpanEndEffect
  split
  · exact (h.advanceTo _).concludeSlot _ _
  · exact h

theorem hearNote (h : LawfulLanes s) (slipped : Bool) (n : Note) : LawfulLanes (s.hearNote slipped n) := by
  unfold State.hearNote
  split <;> exact h.elsewhere (by rfl)

theorem takeReception (h : LawfulLanes s) (slot : Fin 16) (bytes : List Byte) :
    LawfulLanes (s.takeReception slot bytes) := by
  have buffered : LawfulLanes { s with transceiver := { s.transceiver with buffer := bytes } } := h.elsewhere (by rfl)
  unfold State.takeReception
  dsimp only
  split
  · exact buffered.concludeSlot _ _
  · exact (buffered.concludeSlot slot .foreign).elsewhere (by rfl)
  · unfold State.takeNote
    dsimp only
    split
    · exact buffered.detach _ _
    · exact (buffered.concludeSlot _ _).hearNote _ _

theorem noteCompletion (h : LawfulLanes s) (slot : Fin 16) (r : Reception) :
    LawfulLanes (noteCompletionEffect slot r s) := by
  unfold noteCompletionEffect
  split
  · exact (h.advanceTo _).takeReception _ _
  · exact h

theorem ownTransmissionStart (h : LawfulLanes s) : LawfulLanes (ownTransmissionStartEffect s) := by
  have passed : LawfulLanes (s.advanceTo s.ownStartTick).passOwnSlot := h.elsewhere (by rfl)
  unfold ownTransmissionStartEffect
  split
  · dsimp only
    split
    · unfold State.becomeJoining
      split <;> exact passed.elsewhere (by rfl)
    · exact passed.concludeSlot _ _
  · exact h

theorem ownNoteCompletion (h : LawfulLanes s) (levels : List (Bool × Bool)) :
    LawfulLanes (ownNoteCompletionEffect levels s) := by
  unfold ownNoteCompletionEffect
  split
  · next x _ =>
    have ended : LawfulLanes { s.advanceTo (x.start + x.note.ticks) with
        transceiver := { (s.advanceTo (x.start + x.note.ticks)).transceiver with sending := none } } :=
      h.elsewhere (by rfl)
    dsimp only
    split
    · unfold State.judgeReadback
      split
      · exact (ended.concludeSlot _ _).detach _ _
      · exact (ended.concludeSlot _ _).elsewhere (by rfl)
    · unfold State.endUnjudged
      split <;> exact ended.elsewhere (by rfl)
  · exact h

theorem partingNoteSend (h : LawfulLanes s) : LawfulLanes (partingNoteSendEffect s) := by
  unfold partingNoteSendEffect
  split <;> exact h.elsewhere (by rfl)

theorem verifyWalkConclusion (h : LawfulLanes s) : LawfulLanes (verifyWalkConclusionEffect s) := by
  unfold verifyWalkConclusionEffect concludeWalk
  split <;> exact h.elsewhere (by rfl)

/-! ### The commands of the port -/

theorem writeEntry (h : LawfulLanes s) (entry : Fin 64) (content : Option Plan) :
    LawfulLanes (writeEntry entry content s) := by
  unfold Machine.writeEntry
  dsimp only
  split <;> exact h.elsewhere (by rfl)

theorem leaveAtFrameEnd (h : LawfulLanes s) : LawfulLanes s.leaveAtFrameEnd := by
  unfold State.leaveAtFrameEnd
  split <;> exact h.elsewhere (by rfl)

theorem leaveAtSegmentEnd (h : LawfulLanes s) : LawfulLanes s.leaveAtSegmentEnd := by
  unfold State.leaveAtSegmentEnd
  split
  · exact h.leaveAtFrameEnd
  · exact h.elsewhere (by rfl)

/-- LEAVE(IMMEDIATE) lets a COMPLETE record in ON go on and cuts the others (R154). -/
theorem leaveAtOnce (h : LawfulLanes s) : LawfulLanes s.leaveAtOnce := by
  have drains : LawfulLanes s.draining := (h.mapGenerators leaveCut_keepsLawful).elsewhere (by rfl)
  unfold State.leaveAtOnce
  split
  · exact h
  · split
    · rw [State.departNow_drain]
      exact drains.finishDrain
    · exact enterStandby _ _ _

/-- A LEAVE before the flush frame enters STANDBY (R89). -/
theorem leaveEarly (s : State) : LawfulLanes s.leaveEarly := enterStandby _ _ _

/-- The commands whose action reaches the generators are the LEAVEs and RESTART. -/
theorem portAction (h : LawfulLanes s) (c : Instr) : LawfulLanes (portAction c s) := by
  cases c <;> simp only [Machine.portAction]
  case setProfile image =>
    unfold setProfileAction
    split <;> exact h.elsewhere (by rfl)
  case profileDone =>
    unfold profileDoneAction
    repeat' split
    all_goals exact h.elsewhere (by rfl)
  case writePlan index image =>
    unfold writePlanAction
    repeat' split
    case h_2 => exact (h.writeEntry _ _).reply _
    all_goals exact h.elsewhere (by rfl)
  case readPlan index =>
    unfold readPlanAction
    repeat' split
    all_goals exact h.elsewhere (by rfl)
  case verify =>
    unfold verifyAction
    repeat' split
    all_goals exact h.elsewhere (by rfl)
  case join start =>
    unfold joinAction
    repeat' split
    all_goals exact h.elsewhere (by rfl)
  case leaveFrameEnd =>
    unfold leaveFrameEndAction
    split
    case h_5 | h_6 | h_7 => exact (leaveEarly s).reply _
    case h_8 | h_9 =>
      split
      · exact h.reply _
      all_goals exact h.leaveAtFrameEnd.reply _
    all_goals exact h.reply _
  case leaveSegmentEnd =>
    unfold leaveSegmentEndAction
    split
    case h_5 | h_6 | h_7 => exact (leaveEarly s).reply _
    case h_8 | h_9 =>
      split
      · exact h.reply _
      · exact h.reply _
      · exact h.leaveAtSegmentEnd.reply _
    all_goals exact h.reply _
  case leaveImmediate =>
    unfold leaveImmediateAction
    split
    case h_4 | h_5 | h_6 => exact (leaveEarly s).reply _
    case h_7 | h_8 | h_9 => exact h.leaveAtOnce.reply _
    all_goals exact h.reply _
  case restart => exact idle rfl
  case clearFault =>
    unfold clearFaultAction
    split <;> exact h.elsewhere (by rfl)
  case stage start =>
    unfold stageAction
    repeat' split
    all_goals exact h.elsewhere (by rfl)
  case unstage =>
    unfold unstageAction
    split <;> exact h.elsewhere (by rfl)
  case readySwitch | readyKeep =>
    unfold readyAction
    split <;> exact h.elsewhere (by rfl)
  case unready =>
    unfold unreadyAction
    repeat' split
    all_goals exact h.elsewhere (by rfl)
  case readStatus => exact h.elsewhere (by rfl)
  case readLog =>
    unfold readLogAction
    repeat' split
    all_goals exact h.elsewhere (by rfl)
  case readRoster index =>
    unfold readRosterAction
    repeat' split
    all_goals exact h.elsewhere (by rfl)
  case readGrants =>
    unfold readGrantsAction
    split <;> exact h.elsewhere (by rfl)
  case unassignedCommand code argument =>
    unfold unassignedCommandAction
    split <;> exact h.elsewhere (by rfl)
  all_goals exact h

theorem handOver (h : LawfulLanes s) (c : Instr) : LawfulLanes (s.handOver c (Machine.portAction c)) :=
  State.handOver_elim h (h.elsewhere (by rfl)) (h.portAction c)

theorem handOverImage (h : LawfulLanes s) (size : Nat) (image : List Byte) (c : Instr) :
    LawfulLanes (s.handOverImage size image c (Machine.portAction c)) :=
  State.handOverImage_elim h (h.elsewhere (by rfl)) (h.elsewhere (by rfl)) (h.portAction c)

theorem refuseByte (h : LawfulLanes s) : LawfulLanes s.refuseByte := by
  unfold State.refuseByte
  split <;> exact h.elsewhere (by rfl)

theorem transactionCutShort (h : LawfulLanes s) (cut : CutPoint) : LawfulLanes (transactionCutShortEffect cut s) := by
  unfold transactionCutShortEffect
  cases cut with
  | acrossReset => exact h
  | beforeTaken => exact State.endEarly_elim h (h.elsewhere (by rfl))
  | inResult =>
    dsimp only
    split <;> exact h.elsewhere (by rfl)
  | inData shifted =>
    unfold State.loseData
    dsimp only
    repeat' split
    all_goals exact h.elsewhere (by rfl)

/-! ### The timebase -/

theorem timebaseLoss (h : LawfulLanes s) : LawfulLanes (timebaseLossEffect s) := by
  unfold timebaseLossEffect State.loseTimebase
  dsimp only
  repeat' split
  case isFalse.isFalse.isTrue => exact idle rfl
  all_goals exact h.elsewhere (by rfl)

theorem carryOut (h : LawfulLanes s) (x : Returning) : LawfulLanes (s.carryOut x) := by
  cases x with
  | record r => exact h.elsewhere (by rfl)
  | command c cut =>
    unfold State.carryOut State.takeWaiting
    dsimp only
    split
    · exact (h.portAction c).elsewhere (by rfl)
    · exact h.portAction c

theorem carryOutAll (h : LawfulLanes s) (order : List Returning) : LawfulLanes (order.foldl State.carryOut s) := by
  induction order generalizing s with
  | nil => exact h
  | cons x order ih => exact ih (h.carryOut x)

theorem tclkReturn (h : LawfulLanes s) : LawfulLanes (tclkReturnEffect s) := by
  have returned : LawfulLanes s.edgesReturn.firstTick := h.elsewhere (by rfl)
  unfold tclkReturnEffect
  split
  · split
    · exact h.elsewhere (by rfl)
    · exact returned.carryOutAll _
  · exact h

theorem settleCountComplete (h : LawfulLanes s) : LawfulLanes (settleCountCompleteEffect s) := by
  unfold settleCountCompleteEffect
  split <;> exact h.elsewhere (by rfl)

/-! ### Every step -/

theorem onTick (h : LawfulLanes s) {f : State → State} (hf : LawfulLanes (f s)) : LawfulLanes (s.onTick f) :=
  State.onTick_elim h hf

theorem exec (h : LawfulLanes s) {c : Instr} (next : Machine.exec c s = .next t) : LawfulLanes t := by
  cases c <;> obtain rfl := Host.Outcome.next.inj next
  case setProfile | writePlan => exact h.handOverImage _ _ _
  case profileDone | readPlan | verify | join | leaveFrameEnd | leaveSegmentEnd | leaveImmediate | restart | clearFault
    | stage | unstage | readySwitch | readyKeep | unready | readStatus | readLog | readRoster | readGrants =>
    exact h.handOver _
  case unassignedCommand code argument =>
    split
    · exact h.handOver (.unassignedCommand code argument)
    · exact h.refuseByte
  case transactionCutShort cut => exact h.transactionCutShort cut
  case powerOnReset | rstnLow => exact idle rfl
  case rstnRelease => exact h.elsewhere (by rfl)
  case frameLevelChange high => exact h.frameLevelChange high
  case timebaseLoss => exact h.timebaseLoss
  case tclkReturn => exact h.tclkReturn
  case verifyWalkConclusion => exact h.onTick h.verifyWalkConclusion
  case frameMark => exact h.onTick (h.sampleFrame true)
  case participantPull => exact h.onTick h.participantPull
  case minFrameTimeElapsed => exact h.onTick h.minFrameTimeElapsed
  case holdLimitExpiry => exact h.onTick h.holdLimitExpiry
  case stallTimerExpiry => exact h.onTick h.stallTimerExpiry
  case listenTimerExpiry => exact h.onTick h.listenTimerExpiry
  case foundingPulseEnd => exact h.onTick h.foundingPulseEnd
  case searchSpanEnd slot low => exact h.onTick (h.searchSpanEnd slot low)
  case noteCompletion slot r => exact h.onTick (h.noteCompletion slot r)
  case ownTransmissionStart => exact h.onTick h.ownTransmissionStart
  case ownNoteCompletion levels => exact h.onTick (h.ownNoteCompletion levels)
  case partingNoteSend => exact h.onTick h.partingNoteSend
  case windowEnd => exact h.onTick h.windowEnd
  case hcodeWordSent => exact h.onTick h.hcodeWordSent
  case exposureStart hrdy => exact h.onTick (h.exposureStart hrdy)
  case exposureEnd => exact h.onTick h.exposureEnd
  case exposuresEnded => exact h.onTick h.exposuresEnded
  case strobeDelayEnd channel => exact h.onTick (h.strobeDelayEnd channel)
  case strobeOnEnd channel => exact h.onTick (h.strobeOnEnd channel)
  case strobeOffEnd channel => exact h.onTick (h.strobeOffEnd channel)
  case settleCountComplete => exact h.onTick h.settleCountComplete

theorem tick (h : LawfulLanes s) : LawfulLanes (Machine.tick s) := by
  rcases tick_cases s with ⟨-, e⟩ | ⟨-, -, e⟩ | ⟨-, -, e⟩ <;> rw [e] <;> exact h.elsewhere (by rfl)

end LawfulLanes

/-- Settles O59: no command, event or tick breaks the lawful use of light lanes, and lawful light is on a lane in use. The
agreement of the blocks is not needed for it. -/
theorem everyStepKeepsLightLanesLawful : Obligations.EveryStepKeepsLightLanesLawful := by
  intro s t _ lawful next
  rw [State.lanesLawful_iff] at lawful ⊢
  have kept : LawfulLanes t := by
    cases queue : s.pending with
    | nil =>
      rw [step_empty queue] at next
      exact Host.Outcome.next.inj next ▸ lawful.tick
    | cons c rest =>
      rw [step_front c rest s queue] at next
      exact LawfulLanes.exec (s := { s with pending := rest }) (lawful.elsewhere (by rfl)) next
  exact ⟨kept, fun _ => State.inUse_of_drivesLane kept⟩

end Sys2Proof.Machine
end

section
/-! SUPPORT. An ordinary mark decides every record on a lane from the grant table held (O33). -/

namespace Sys2Proof.Machine

/-! ### The record of a channel (R150) -/

theorem Plan.onChannel_spec {p : Plan} {c : Fin 4} {r : StrobeRecord} (h : p.onChannel c = some r) :
    r.channel = c ∧ ∃ k : Fin 4, p.slots.get k = some r :=
  ⟨by simpa using List.find?_some h, Plan.mem_records.1 (List.mem_of_find?_eq_some h)⟩

theorem Plan.onChannel_eq_none_iff (p : Plan) (c : Fin 4) :
    p.onChannel c = none ↔ ∀ (k : Fin 4) r, p.slots.get k = some r → r.channel ≠ c := by
  rw [Plan.onChannel, List.find?_eq_none]
  simp only [Plan.mem_records, beq_iff_eq, forall_exists_index]
  exact forall_comm

/-! ### The decision from the table (R63, R64) -/

/-- The table held decides records of a frame: it is COMPLETE and of that frame. -/
def State.Usable (s : State) (frame : FrameNo) (g : GrantTable) : Prop :=
  s.resolver.table = some g ∧ g.frame = frame ∧ g.complete = true

section
variable {s : State} {frame : FrameNo} {r : StrobeRecord} {lane : Fin 8} (hl : r.lane = some lane)
include hl

/-- Without a table to go by, the record forfeits. -/
theorem State.decideRecord_forfeit (h : ∀ g, ¬ s.Usable frame g) : s.decideRecord frame false r = .denied .forfeit := by
  cases table : s.resolver.table with
  | none => simp [State.decideRecord, hl, table]
  | some g =>
    have stale : g.frame ≠ frame ∨ g.complete = false := by
      by_contra fresh
      rw [not_or, not_not, Bool.not_eq_false] at fresh
      exact h g ⟨table, fresh⟩
    simp [State.decideRecord, hl, table, stale]

/-- With one, the lane's winner  -/
theorem State.decideRecord_usable {g : GrantTable} (h : s.Usable frame g) :
    s.decideRecord frame false r =
      if ((g.lanes.get lane).winner.map fun w => w.1) = some s.prof.index then .granted else .denied .lostArbitration := by
  obtain ⟨table, rfl, complete⟩ := h
  simp [State.decideRecord, hl, table, complete]

theorem State.decideRecord_granted {g : GrantTable} (h : s.Usable frame g) {priority : Fin 4}
    (wins : (g.lanes.get lane).winner = some (s.prof.index, priority)) : s.decideRecord frame false r = .granted := by
  rw [State.decideRecord_usable hl h, if_pos (by rw [wins]; rfl)]

theorem State.decideRecord_lost {g : GrantTable} (h : s.Usable frame g)
    (loses : ∀ priority, (g.lanes.get lane).winner ≠ some (s.prof.index, priority)) :
    s.decideRecord frame false r = .denied .lostArbitration := by
  rw [State.decideRecord_usable hl h, if_neg]
  intro own
  obtain ⟨w, won, index⟩ := Option.map_eq_some_iff.1 own
  exact loses w.2 (won.trans (by rw [← index]))

end

/-! ### The programs that start (R151, R152) -/

/-- A GRANTED record starts as a PRIVATE one does. -/
theorem Generator.load_granted (t : Nat) (dark : Bool) (r : StrobeRecord) :
    Generator.load t dark r .granted = { Generator.load t dark r .unarbitrated with decision := some .granted } := by
  unfold Generator.load
  cases r.reference with
  | mark =>
    by_cases h : r.delay = 0 <;> simp [Generator.takeReference, Generator.enterOn, h]
  | firstExpose | lastExposeEnd => cases dark <;> rfl

/-- A record that runs starts from its reference, whichever way it was allowed to run. -/
theorem Generator.load_runs (t : Nat) (dark : Bool) (r : StrobeRecord) {d : Decision}
    (hd : d = .granted ∨ d = .unarbitrated) :
    let g := Generator.load t dark r d
    (r.reference = .mark → r.delay = 0 →
      g.phase = .on ∧ g.pulsesLeft = r.pulses - 1 ∧ g.phaseEnd = some (t + r.onTime) ∧ g.outcome = none) ∧
    (r.reference = .mark → r.delay ≠ 0 →
      g.phase = .delay ∧ g.pulsesLeft = r.pulses ∧ g.phaseEnd = some (t + r.delay) ∧ g.outcome = none) ∧
    (r.reference ≠ .mark → dark = false →
      g.phase = .wait ∧ g.pulsesLeft = r.pulses ∧ g.phaseEnd = none ∧ g.outcome = none) ∧
    (r.reference ≠ .mark → dark = true → g.phase = .done ∧ g.outcome = some .notRun) := by
  rcases hd with rfl | rfl
  · rw [Generator.load_granted]
    exact Generator.load_unarbitrated t dark r
  · exact Generator.load_unarbitrated t dark r

/-! ### The mark (R62, R65, R83, R85) -/

/-- A participant's mark without an advance begins a frame on the content held, whether the station stays on or becomes
LEAVING. -/
theorem State.beginFrame_next_begun {s : State} {content : Content} (hturn : s.epochs.turn.isDue = false)
    (hc : s.heldContent = content) :
    ∃ m c e chains, s.beginFrame .next = (s.begun .next m c e).logChains chains ∧ c.current = some content := by
  by_cases leaves : s.membership.pendingLeave = some .frameEnd ∨ s.membership.leavingFrame = true
  · exact ⟨_, _, _, _, State.beginFrame_leaves hturn hc leaves, State.makeCurrent_current content _⟩
  · exact ⟨_, _, _, _, State.beginFrame_staysOn hturn hc leaves, State.makeCurrent_current content _⟩

/-- What the generators, the resolver and the fourth release condition are at an ordinary mark. -/
theorem exec_frameMark_decides {s : State} {content : Content} (ht : s.ticking = true) (hr : s.risesNow = true)
    (hw : s.transceiver.windowOpen = false) (hb : s.barrier.phase = .released)
    (hst : s.membership.state.participant = true) (hturn : s.epochs.turn.isDue = false)
    (hc : s.heldContent = content) :
    ∃ t, exec .frameMark s = .next t ∧
      t.generators = s.loadGenerators (s.barrier.frameNo + 1) false content ∧
      t.resolver = s.resolver.atMark (s.barrier.frameNo + 1) false t.generators ∧
      t.barrier.strobesDone = allSettled t.generators := by
  have run := exec_frameMark_rise ht hr hw
  rw [State.actOnMark_next (s := s.rising) hb hst] at run
  obtain ⟨m, c, e, chains, begins, current⟩ := State.beginFrame_next_begun (s := s.rising) hturn hc
  have generators : (s.rising.begun .next m c e).generators = s.loadGenerators (s.barrier.frameNo + 1) false content := by
    change s.rising.loadGenerators (s.barrier.frameNo + 1) s.epochs.turn.isDue (c.current.getD .idle) = _
    rw [current, hturn]
    rfl
  have resolver : (s.rising.begun .next m c e).resolver =
      s.resolver.atMark (s.barrier.frameNo + 1) s.epochs.turn.isDue (s.rising.begun .next m c e).generators := rfl
  rw [hturn] at resolver
  rw [begins] at run
  exact ⟨_, run, generators, resolver, rfl⟩

/-- Settles O33: the mark loads the plan's records with the resolver's decisions, which the table held gives. -/
theorem laneRecordsAreDecidedFromTheGrantTable : Obligations.LaneRecordsAreDecidedFromTheGrantTable := by
  refine ⟨fun p c => ⟨fun r => Plan.onChannel_spec, p.onChannel_eq_none_iff c⟩, ?_⟩
  intro e p s ht hr hw hb hst hturn hlook hp
  obtain ⟨t, run, generators, resolver, strobesDone⟩ := exec_frameMark_decides ht hr hw hb
    ((StationState.participant_iff _).2 hst) (TurnState.not_due_of hturn) (State.heldContent_of hlook nofun)
  have plan : s.appliedPlan (.apply e) = some p := hp
  have idle (c : Fin 4) (h : p.onChannel c = none) : t.generators.get c = {} := by
    rw [generators]
    exact State.loadGenerators_idle (by rw [State.channelRecord, plan]; exact h) _ _
  have loads {c : Fin 4} {r : StrobeRecord} (h : p.onChannel c = some r) :
      t.generators.get c = Generator.load s.now p.dark r (s.decideRecord (s.barrier.frameNo + 1) false r) := by
    rw [generators]
    exact State.loadGenerators_loads plan h _ _
  have holds {c : Fin 4} {r : StrobeRecord} (h : p.onChannel c = some r) :
      (t.generators.get c).record = some r ∧
        (t.generators.get c).decision = some (s.decideRecord (s.barrier.frameNo + 1) false r) := by
    rw [loads h]
    exact Generator.load_record _ _ _ _
  refine ⟨t, run, ?_, ?_, ?_, fun c => ⟨idle c, fun r h => ?decision⟩, fun l => ?inUse, fun c r h => ?program, ?strobes⟩
  · rw [resolver]; rfl
  · rw [resolver]; rfl
  · rw [resolver]; rfl
  case decision =>
    obtain ⟨record, decision⟩ := holds h
    rw [decision]
    refine ⟨record, fun hl => congrArg some (State.decideRecord_private hl _ _), fun l hl => ⟨fun none => ?_, fun g usable =>
      ⟨fun ⟨_, wins⟩ => ?_, fun loses => ?_⟩⟩⟩
    · exact congrArg some (State.decideRecord_forfeit hl none)
    · exact congrArg some (State.decideRecord_granted hl usable wins)
    · exact congrArg some (State.decideRecord_lost hl usable loses)
  case inUse =>
    rw [resolver]
    refine (getLsbD_grantedLanes t.generators l).trans ?_
    simp only [Generator.Grants]
  case program =>
    have channel : p.onChannel c = some r := by
      cases channel : p.onChannel c with
      | none => rw [idle c channel] at h; cases h
      | some r' => exact (holds channel).1.symm.trans h
    obtain ⟨-, decision⟩ := holds channel
    have load := loads channel
    dsimp only
    rw [decision, load]
    refine ⟨fun reason denied => ?_, fun runs => ?_⟩
    · rw [Option.some.inj denied]
      exact ⟨rfl, rfl, rfl, rfl⟩
    · exact Generator.load_runs _ _ _ (runs.imp Option.some.inj Option.some.inj)
  case strobes =>
    rw [strobesDone, allSettled_iff]
    exact forall_congr' fun c => Generator.settled_iff _

end Sys2Proof.Machine
end

section
/-! SUPPORT. The FRAME record field by field, its storing, and the cut of the generators (O48). -/

namespace Sys2Proof.Machine

/-! ### The denied lanes (R63, R161) -/

theorem Generator.denial_eq_some_iff (g : Generator) (l : Fin 8) (reason : DenyReason) :
    g.denial = some (l, reason) ↔
      ∃ x, g.record = some x ∧ x.lane = some l ∧ g.decision = some (.denied reason) := by
  unfold Generator.denial
  split
  · next lane why hl hd =>
    obtain ⟨x, hx, hlane⟩ := Option.bind_eq_some_iff.1 hl
    constructor
    · rintro ⟨⟩
      exact ⟨x, hx, hlane, hd⟩
    · rintro ⟨x', hx', hlane', hd'⟩
      cases hx.symm.trans hx'
      cases hlane.symm.trans hlane'
      cases hd.symm.trans hd'
      rfl
  all_goals
    refine ⟨nofun, fun ⟨x, hx, hlane, hd⟩ => ?_⟩
    simp_all

theorem mem_deniedLanes_iff (gens : Vector Generator 4) (l : Fin 8) (reason : DenyReason) :
    (l, reason) ∈ deniedLanes gens ↔
      ∃ c x, (gens.get c).record = some x ∧ x.lane = some l ∧ (gens.get c).decision = some (.denied reason) := by
  have denied : (l, reason) ∈ deniedLanes gens ↔ ∃ g ∈ gens.toList, g.denial = some (l, reason) := by
    simp [deniedLanes]
  rw [denied]
  simp only [vector_mem_toList_iff, exists_exists_eq_and, Generator.denial_eq_some_iff]

/-- Chains of one key each, the keys ascending, make an ascending list. -/
theorem pairwise_flatMap_filter {α : Type} (key : α → Fin 8) (items : List α) (keys : List (Fin 8))
    (ascends : keys.Pairwise (· ≤ ·)) :
    (keys.flatMap fun k => items.filter fun d => key d == k).Pairwise fun a b => key a ≤ key b := by
  have keyed {k : Fin 8} {d : α} (h : d ∈ items.filter fun d => key d == k) : key d = k := by
    simpa using (List.mem_filter.1 h).2
  refine List.pairwise_flatMap.2 ⟨fun k _ => List.pairwise_of_forall_mem_list fun a ha b hb => ?_,
    ascends.imp fun {j k} le a ha b hb => ?_⟩
  · exact (keyed ha).le.trans (keyed hb).ge
  · rw [keyed ha, keyed hb]
    exact le

theorem deniedLanes_ascending (gens : Vector Generator 4) : (deniedLanes gens).Pairwise fun a b => a.1 ≤ b.1 :=
  pairwise_flatMap_filter _ _ _ (List.pairwise_le_finRange 8)

/-! ### The policy (R165) -/

theorem ChannelOutcome.exceptional_iff (o : Option ChannelOutcome) :
    (o.map ChannelOutcome.exceptional).getD false = true ↔ o = some .notRun ∨ o = some .cut := by
  rcases o with - | o
  · simp
  · cases o <;> simp [ChannelOutcome.exceptional]

/-- What makes a frame an exception. -/
theorem FrameReport.exceptional_iff (r : FrameReport) :
    r.exceptional = true ↔
      r.outcome ≠ .exposed ∨ r.denied ≠ [] ∨ r.late = true ∨ r.truncated = true ∨ r.headBusy = true ∨
        r.shortBurst = true ∨ r.turn = true ∨ ∃ c, r.channels.get c = some .notRun ∨ r.channels.get c = some .cut := by
  simp only [FrameReport.exceptional, Bool.or_eq_true, vector_any_iff, ChannelOutcome.exceptional_iff, bne_iff_ne,
    Bool.not_eq_true', List.isEmpty_eq_false_iff, or_assoc]

theorem Policy.stores_iff (policy : Policy) (r : FrameReport) :
    policy.stores r = true ↔ policy = .all ∨ r.exceptional = true := by
  cases policy <;> simp [Policy.stores]

theorem State.frameRecord_stored {s : State} {truncated : Bool}
    (h : s.prof.policy.stores (s.frameReport truncated) = true) :
    s.frameRecord truncated =
      [{ body := .frame (s.frameReport truncated), frame := s.barrier.runFrame, epoch := s.barrier.runEpoch }] := if_pos h

theorem State.frameRecord_discarded {s : State} {truncated : Bool}
    (h : ¬ s.prof.policy.stores (s.frameReport truncated) = true) : s.frameRecord truncated = [] := if_neg h

theorem Sequencer.shortBurst_iff (q : Sequencer) : q.shortBurst = true ↔ ∃ k, q.skipAt = some k ∧ 2 ≤ k := by
  unfold Sequencer.shortBurst
  cases q.skipAt <;> simp

/-- Settles O48: each field is read off its block; the denied lanes, the policy and the cut have their lemmas above. -/
theorem frameRecordsReportTheFrame : Obligations.FrameRecordsReportTheFrame := by
  intro truncated s r exceptional
  have stores : s.prof.policy.stores r = true ↔ s.prof.policy = .all ∨ exceptional := by
    rw [Policy.stores_iff, FrameReport.exceptional_iff]
  refine ⟨fun h => State.frameRecord_stored (stores.2 h), rfl, fun c => ?cut, fun policy ordinary => ?discarded,
    fun e h => ?apply, fun e h => ?flush, fun e h => ?settle, fun h => ?idle, fun h => ?parked, fun h => ?abstain,
    rfl, rfl, rfl, beq_iff_eq, s.sequencer.shortBurst_iff, rfl, rfl, fun c => vector_get_map _ _ c,
    mem_deniedLanes_iff s.generators, deniedLanes_ascending s.generators⟩
  case cut =>
    have cuts : s.cutGenerators.generators.get c = (s.generators.get c).cutNow := vector_get_map _ _ c
    rw [cuts]
    refine ⟨fun h => Generator.cutNow_of_settled ((Generator.settled_iff _).2 h), fun done cut => ?_⟩
    exact Generator.cutNow_of_running (by simp [Generator.settled, done, cut])
  case discarded =>
    refine State.frameRecord_discarded fun stored => ?_
    rcases stores.1 stored with all | exception
    · exact nomatch policy.symm.trans all
    · exact ordinary exception
  all_goals
    simp only [r, State.frameReport, State.framePlan, State.frameOutcome, h, and_self]

end Sys2Proof.Machine
end

section
/-! SUPPORT. The winner of a lane: the highest claim, and among equals the first in the cyclic order (O51). -/

namespace Sys2Proof.Machine

/-! ### The cyclic order (R60) -/

/-- A search through 0, 1, … answers what the first hit gives. -/
theorem findSome?_range_eq_some_iff {α : Type} (n : Nat) (f : Nat → Option α) (x : α) :
    (List.range n).findSome? f = some x ↔ ∃ k, k < n ∧ f k = some x ∧ ∀ j, j < k → f j = none := by
  induction n generalizing f with
  | zero => simp
  | succ n ih =>
    rw [List.range_succ_eq_map, List.findSome?_cons]
    cases first : f 0 with
    | some y =>
      refine ⟨fun h => ⟨0, n.succ_pos, first.trans h, nofun⟩, fun ⟨k, _, hit, before⟩ => ?_⟩
      cases k with
      | zero => exact first.symm.trans hit
      | succ k => exact nomatch first.symm.trans (before 0 k.succ_pos)
    | none =>
      rw [List.findSome?_map, ih]
      constructor
      · rintro ⟨k, hk, hit, before⟩
        refine ⟨k + 1, by omega, hit, fun j hj => ?_⟩
        cases j with
        | zero => exact first
        | succ j => exact before j (by omega)
      · rintro ⟨k, hk, hit, before⟩
        cases k with
        | zero => exact nomatch first.symm.trans hit
        | succ k => exact ⟨k, by omega, hit, fun j hj => before (j + 1) (by omega)⟩

/-- The place of a station in the order t, t+1, …, W−1, 0, …, t−1. -/
def cyclicPlace (width t i : Nat) : Nat := (i + width - t) % width

theorem cyclicPlace_lt {width t : Nat} (ht : t < width) (i : Nat) : cyclicPlace width t i < width :=
  Nat.mod_lt _ (by omega)

/-- The station at a place. -/
theorem station_at_cyclicPlace {width t i : Nat} (ht : t < width) (hi : i < width) :
    (t + cyclicPlace width t i) % width = i := by
  rw [cyclicPlace, Nat.add_mod_mod, show t + (i + width - t) = i + width by omega, Nat.add_mod_right,
    Nat.mod_eq_of_lt hi]

/-- The place of the station that stands at one. -/
theorem cyclicPlace_of_station {width t k : Nat} (ht : t < width) (hk : k < width) :
    cyclicPlace width t ((t + k) % width) = k := by
  unfold cyclicPlace
  by_cases h : t + k < width
  · rw [Nat.mod_eq_of_lt h, show t + k + width - t = k + width by omega, Nat.add_mod_right, Nat.mod_eq_of_lt hk]
  · have wrapped : (t + k) % width = t + k - width := by
      rw [Nat.mod_eq_sub_mod (by omega), Nat.mod_eq_of_lt (by omega)]
    rw [wrapped, show t + k - width + width - t = k by omega, Nat.mod_eq_of_lt hk]

/-! ### Claimants (R58, R60) -/

theorem foldl_max_le_iff (l : List Nat) (m n : Nat) : l.foldl max m ≤ n ↔ m ≤ n ∧ ∀ x ∈ l, x ≤ n := by
  induction l generalizing m with
  | nil => simp
  | cons x rest ih => rw [List.foldl_cons, ih, max_le_iff, List.forall_mem_cons, and_assoc]

/-- The highest claimants are those that no claimant exceeds. -/
theorem mem_topClaimants {l : List (Fin 16 × Fin 4)} {c : Fin 16 × Fin 4} :
    c ∈ topClaimants l ↔ c ∈ l ∧ ∀ d ∈ l, d.2 ≤ c.2 := by
  have bound (n : Nat) : (l.map fun d => d.2.val).foldl max 0 ≤ n ↔ ∀ d ∈ l, d.2.val ≤ n := by
    rw [foldl_max_le_iff, List.forall_mem_map]
    exact and_iff_right n.zero_le
  rw [topClaimants, List.mem_filter, beq_iff_eq]
  refine and_congr_right fun hc => ⟨fun h => (bound _).1 h.ge, fun h => le_antisymm ?_ ((bound _).2 h)⟩
  exact (bound _).1 le_rfl c hc

/-- A station that names each lane at most once claims a lane at the priority that a search finds. -/
theorem find_claim_iff {claims : List Claim} (once : (claims.map fun c => c.lane).Nodup) (lane : Fin 8) (p : Fin 4) :
    (∃ c, claims.find? (fun c => c.lane == lane) = some c ∧ c.priority = p) ↔ { lane, priority := p : Claim } ∈ claims := by
  constructor
  · rintro ⟨c, found, rfl⟩
    obtain rfl : c.lane = lane := by simpa using List.find?_some found
    exact List.mem_of_find?_eq_some found
  · intro claimed
    cases found : claims.find? fun c => c.lane == lane with
    | none => simpa using List.find?_eq_none.1 found _ claimed
    | some c =>
      have named : c.lane = lane := by simpa using List.find?_some found
      have same := List.inj_on_of_nodup_map once (List.mem_of_find?_eq_some found) claimed named
      exact ⟨c, rfl, by rw [same]⟩

/-- A station's claim on a lane. -/
def Claims (entering : Entering) (lane : Fin 8) (i : Fin 16) (p : Fin 4) : Prop :=
  ∃ e ∈ entering, e.1 = i ∧ { lane, priority := p : Claim } ∈ e.2

theorem mem_claimantsOf_iff {entering : Entering} (once : ∀ e ∈ entering, (e.2.map fun c => c.lane).Nodup) (lane : Fin 8)
    (i : Fin 16) (p : Fin 4) : (i, p) ∈ claimantsOf entering lane ↔ Claims entering lane i p := by
  rw [claimantsOf, List.mem_filterMap]
  refine exists_congr fun e => and_congr_right fun he => ?_
  rw [← find_claim_iff (once e he), Option.map_eq_some_iff]
  simp only [Prod.mk.injEq]
  exact ⟨fun ⟨c, found, hi, hp⟩ => ⟨hi, c, found, hp⟩, fun ⟨hi, c, found, hp⟩ => ⟨c, found, hi, hp⟩⟩

/-- Stations of distinct indices claim a lane at most once each. -/
theorem claimantsOf_distinct {entering : Entering} (distinct : (entering.map fun e => e.1).Nodup) (lane : Fin 8) :
    ((claimantsOf entering lane).map fun c => c.1).Nodup := by
  refine distinct.sublist ?_
  induction entering with
  | nil => exact .slnil
  | cons e rest ih =>
    have ih := ih distinct.of_cons
    unfold claimantsOf at ih ⊢
    rw [List.filterMap_cons]
    cases e.2.find? fun c => c.lane == lane with
    | none => exact ih.cons _
    | some c => exact ih.cons_cons _

/-! ### The winner (R60) -/

theorem find_station_iff {l : List (Fin 16 × Fin 4)} (distinct : (l.map fun c => c.1).Nodup) (k : Nat)
    (c : Fin 16 × Fin 4) : l.find? (fun c => c.1.val == k) = some c ↔ c ∈ l ∧ c.1.val = k := by
  constructor
  · exact fun found => ⟨List.mem_of_find?_eq_some found, by simpa using List.find?_some found⟩
  · rintro ⟨member, index⟩
    cases found : l.find? fun c => c.1.val == k with
    | none => simpa [index] using List.find?_eq_none.1 found c member
    | some d =>
      have same : d.1 = c.1 := Fin.ext ((by simpa using List.find?_some found : d.1.val = k).trans index.symm)
      exact congrArg some (List.inj_on_of_nodup_map distinct (List.mem_of_find?_eq_some found) member same)

/-- Among claimants of distinct indices below W the winner is the highest one at the lowest place. -/
theorem laneWinner_eq_some_iff {width t : Nat} {l : List (Fin 16 × Fin 4)} (ht : t < width)
    (distinct : (l.map fun c => c.1).Nodup) (below : ∀ c ∈ l, c.1.val < width) (c : Fin 16 × Fin 4) :
    laneWinner width t l = some c ↔
      c ∈ topClaimants l ∧ ∀ d ∈ topClaimants l, cyclicPlace width t c.1 ≤ cyclicPlace width t d.1 := by
  have distinctTop : ((topClaimants l).map fun c => c.1).Nodup := distinct.sublist (List.filter_sublist.map _)
  have belowTop (d) (hd : d ∈ topClaimants l) : d.1.val < width := below d (mem_topClaimants.1 hd).1
  rw [laneWinner, cyclicOrder, List.findSome?_map, findSome?_range_eq_some_iff]
  simp only [Function.comp_apply, find_station_iff distinctTop]
  constructor
  · rintro ⟨k, hk, ⟨member, index⟩, before⟩
    refine ⟨member, fun d hd => ?_⟩
    rw [index, cyclicPlace_of_station ht hk]
    by_contra lower
    have none := List.find?_eq_none.1 (before _ (not_le.1 lower)) d hd
    rw [station_at_cyclicPlace ht (belowTop d hd)] at none
    simp at none
  · rintro ⟨member, first⟩
    refine ⟨cyclicPlace width t c.1, cyclicPlace_lt ht _,
      ⟨member, (station_at_cyclicPlace ht (belowTop c member)).symm⟩, fun j hj => List.find?_eq_none.2 fun d hd index => ?_⟩
    have place : cyclicPlace width t d.1 = j := by
      rw [beq_iff_eq.1 index, cyclicPlace_of_station ht (hj.trans (cyclicPlace_lt ht _))]
    exact absurd (first d hd) (by omega)

/-- The winner of a lane of the table in terms of the claims. -/
theorem laneEntry_winner_iff {width t : Nat} {entering : Entering} (lane : Fin 8) (ht : t < width)
    (distinct : (entering.map fun e => e.1).Nodup)
    (inRig : ∀ e ∈ entering, e.1.val < width ∧ (e.2.map fun c => c.lane).Nodup) (i : Fin 16) (p : Fin 4) :
    (laneEntry width t entering lane).winner = some (i, p) ↔
      Claims entering lane i p ∧ (∀ j q, Claims entering lane j q → q ≤ p) ∧
        ∀ j, Claims entering lane j p → cyclicPlace width t i ≤ cyclicPlace width t j := by
  have claimed := mem_claimantsOf_iff (fun e he => (inRig e he).2) lane
  have below (c) (hc : c ∈ claimantsOf entering lane) : c.1.val < width := by
    obtain ⟨e, he, index, -⟩ := (claimed c.1 c.2).1 hc
    exact index ▸ (inRig e he).1
  have winner := laneWinner_eq_some_iff ht (claimantsOf_distinct distinct lane) below (i, p)
  have top (j : Fin 16) (q : Fin 4) : (j, q) ∈ topClaimants (claimantsOf entering lane) ↔
      Claims entering lane j q ∧ ∀ j' q', Claims entering lane j' q' → q' ≤ q := by
    simp only [mem_topClaimants, Prod.forall, claimed]
  refine winner.trans ?_
  rw [top, and_assoc]
  refine and_congr_right fun own => and_congr_right fun highest => ?_
  simp only [Prod.forall, top]
  refine ⟨fun first j claims => first j p ⟨claims, highest⟩, fun first j q ⟨claims, tops⟩ => ?_⟩
  obtain rfl : q = p := le_antisymm (highest j q claims) (tops i p own)
  exact first j claims

/-- Settles O51: the winner is the highest claimant at the lowest place of the cyclic order. -/
theorem lanesGoToTheHighestClaimantByTheTieBreak : Obligations.LanesGoToTheHighestClaimantByTheTieBreak := by
  intro width t entering lane ht distinct inRig claims place
  have winner (i p) : (laneEntry width t entering lane).winner = some (i, p) ↔ _ :=
    laneEntry_winner_iff lane ht distinct inRig i p
  refine ⟨winner, fun none => Option.eq_none_iff_forall_ne_some.2 fun c won => none c.1 c.2 ((winner c.1 c.2).1 won).1,
    fun i => ?_⟩
  refine (getLsbD_setOf _ i).trans ?_
  simp [mem_claimantsOf_iff (fun e he => (inRig e he).2) lane, Claims, claims]

end Sys2Proof.Machine
end

section
/-! SUPPORT. JOIN and CLEAR FAULT (O20, O26). -/

namespace Sys2Proof.Machine

/-! ### JOIN (R73, R121) -/

theorem exec_join {s : State} (ht : s.ticking = true) (b : Byte) : exec (.join b) s = .next (joinAction b s) :=
  State.command_next ht

/-- The checks on a start entry in their order (R73, R130). -/
theorem State.startEntry_eq (s : State) (b : Byte) :
    s.startEntry b =
      (entryIndex b).elim (.error .range) fun e =>
        if s.verifier ≠ .pass then .error .unverified else if (s.plan? e).isNone then .error .range else .ok e := by
  unfold State.startEntry
  cases entryIndex b <;> rfl

theorem State.startEntry_range {s : State} {b : Byte} (h : 63 < b.toNat) : s.startEntry b = .error .range :=
  (s.startEntry_eq b).trans (by rw [entryIndex_above h]; rfl)

/-- At an entry of the table the verify status is asked first, then the entry's plan. -/
theorem State.startEntry_byte (s : State) (e : Fin 64) :
    s.startEntry (byte e.val) =
      if s.verifier ≠ .pass then .error .unverified else if (s.plan? e).isNone then .error .range else .ok e :=
  (s.startEntry_eq _).trans (by rw [entryIndex_byte]; rfl)

theorem State.startEntry_unverified {s : State} (e : Fin 64) (h : s.verifier ≠ .pass) :
    s.startEntry (byte e.val) = .error .unverified := (s.startEntry_byte e).trans (if_pos h)

theorem State.startEntry_empty {s : State} {e : Fin 64} (hv : s.verifier = .pass) (he : s.plan? e = none) :
    s.startEntry (byte e.val) = .error .range :=
  (s.startEntry_byte e).trans ((if_neg (not_not_intro hv)).trans (if_pos (Option.isNone_iff_eq_none.2 he)))

theorem State.startEntry_ok {s : State} {e : Fin 64} (hv : s.verifier = .pass) (he : (s.plan? e).isSome = true) :
    s.startEntry (byte e.val) = .ok e :=
  (s.startEntry_byte e).trans
    ((if_neg (not_not_intro hv)).trans (if_neg (Option.isSome_iff_ne_none.1 he ∘ Option.isNone_iff_eq_none.1)))

theorem joinAction_of_state {s : State} (b : Byte) (h : s.membership.state ≠ .standby) :
    joinAction b s = s.reply .state := if_pos h

theorem joinAction_of_not_locked {s : State} (b : Byte) (h : s.timebase.lock ≠ .locked) :
    joinAction b s = s.reply .state := by
  by_cases hs : s.membership.state ≠ .standby
  · exact joinAction_of_state b hs
  · exact (if_neg hs).trans (if_pos h)

theorem joinAction_of_error {s : State} {b : Byte} {code : ResultCode} (hs : s.membership.state = .standby)
    (hl : s.timebase.lock = .locked) (h : s.startEntry b = .error code) : joinAction b s = s.reply code := by
  refine (if_neg (not_not_intro hs)).trans ((if_neg (not_not_intro hl)).trans ?_)
  rw [h]

theorem joinAction_of_ok {s : State} {b : Byte} {e : Fin 64} (hs : s.membership.state = .standby)
    (hl : s.timebase.lock = .locked) (h : s.startEntry b = .ok e) : joinAction b s = (s.listen e).reply .accepted := by
  refine (if_neg (not_not_intro hs)).trans ((if_neg (not_not_intro hl)).trans ?_)
  rw [h]

/-- Settles O20: the first check that fails gives the result, and a JOIN that meets all makes the station LISTENING. -/
theorem joinMakesTheStationListen : Obligations.JoinMakesTheStationListen := by
  intro b e s ht
  rw [exec_join ht b, exec_join ht (byte e.val)]
  refine ⟨fun h => congrArg _ (joinAction_of_state b h), fun _ h => congrArg _ (joinAction_of_not_locked b h),
    fun hs hl => ⟨fun h => congrArg _ ?range, fun h => congrArg _ ?unverified, fun hv h => congrArg _ ?empty,
      fun hv h => congrArg _ ?listens⟩⟩
  case range => exact joinAction_of_error hs hl (State.startEntry_range h)
  case unverified => exact joinAction_of_error hs hl (State.startEntry_unverified e h)
  case empty => exact joinAction_of_error hs hl (State.startEntry_empty hv h)
  case listens => exact joinAction_of_ok hs hl (State.startEntry_ok hv h)

/-! ### CLEAR FAULT (R93) -/

theorem exec_clearFault {s : State} (ht : s.ticking = true) : exec .clearFault s = .next (clearFaultAction s) :=
  State.command_next ht

/-- Outside DETACHED the level of ATTN follows the log alone (R168). -/
theorem State.attn_of_not_detached {s : State} (h : s.membership.state ≠ .detached) :
    s.attn = s.log.queue.any s.attends := by
  rw [State.attn, beq_eq_false_iff_ne.2 h, Bool.false_or]

/-- Settles O26: the station it leads to is in STANDBY, where ATTN follows the log and a JOIN asks for the lock. -/
theorem clearFaultLeavesDetached : Obligations.ClearFaultLeavesDetached := by
  intro s ht
  rw [exec_clearFault ht]
  refine ⟨fun hd => ⟨congrArg _ (if_pos hd), State.attn_of_not_detached nofun, fun hl start => ?join⟩,
    fun hd => congrArg _ (if_neg hd)⟩
  case join =>
    have cleared (t : State) (ticks : t.ticking = true) (lock : t.timebase.lock ≠ .locked)
        (standby : t.membership.state = .standby) :
        ∃ u, exec (.join start) t = .next u ∧ u.port.result = some .state ∧ u.membership.state = .standby :=
      ⟨_, (exec_join ticks start).trans (congrArg _ (joinAction_of_not_locked start lock)), rfl, standby⟩
    exact cleared _ ht hl rfl

end Sys2Proof.Machine
end

section
/-! SUPPORT. LEAVE(FRAME_END) and LEAVE(SEGMENT_END) in FLUSHING and ACTIVE (O22, O23). -/

namespace Sys2Proof.Machine

/-! ### The leaving-frame marker (R127) -/

/-- A content is the last frame before a segment-end leave under the three conditions of R127. -/
theorem State.endsPass_iff (s : State) (content : Content) :
    s.endsPass content = true ↔
      s.membership.pendingLeave = some .segmentEnd ∧ s.cursor.repeatsLeft = 1 ∧
        ∃ n q, content = .apply n ∧ s.plan? n = some q ∧ ∀ m, q.link ≠ .next m := by
  have ends : s.appliesEnd content = true ↔ ∃ n q, content = .apply n ∧ s.plan? n = some q ∧ ∀ m, q.link ≠ .next m := by
    cases content with
    | apply e =>
      cases hp : s.plan? e with
      | none => simp [State.appliesEnd, hp]
      | some p => cases hl : p.link <;> simp [State.appliesEnd, hp, hl]
    | _ => simp [State.appliesEnd]
  rw [State.endsPass_eq, Bool.and_eq_true, Bool.and_eq_true, beq_iff_eq, beq_iff_eq, ends, and_assoc]

/-- The marker judged on the lookahead held. -/
theorem State.judgeMarker_leavingFrame (s : State) :
    s.judgeMarker.membership.leavingFrame = true ↔
      s.membership.pendingLeave = some .segmentEnd ∧ s.cursor.repeatsLeft = 1 ∧
        ∃ n q, s.cursor.lookahead = some (.apply n) ∧ s.plan? n = some q ∧ ∀ m, q.link ≠ .next m := by
  change (s.cursor.lookahead.map s.endsPass).getD false = true ↔ _
  cases h : s.cursor.lookahead with
  | none => simp
  | some content => simpa using s.endsPass_iff content

/-! ### LEAVE(FRAME_END) (R84, R85, R87) -/

theorem exec_leaveFrameEnd {s : State} (ht : s.ticking = true) :
    exec .leaveFrameEnd s = .next (leaveFrameEndAction s) := State.command_next ht

theorem State.slotPassed_iff (s : State) :
    s.slotPassed = true ↔ s.transceiver.ownPassed = true ∨ s.transceiver.windowOpen = false := by
  rw [State.slotPassed, Bool.or_eq_true, Bool.not_eq_true']

/-- A pending frame-end leave clears the marker, which a segment-end leave alone sets (R127). -/
theorem State.pendLeave_frameEnd (s : State) :
    s.pendLeave .frameEnd =
      { s with membership := { s.membership with pendingLeave := some .frameEnd, leavingFrame := false } } := by
  have marker : (s.pendLeave .frameEnd).membership.leavingFrame = false := by
    rw [← Bool.not_eq_true, State.pendLeave, State.judgeMarker_leavingFrame]
    nofun
  rw [← marker]
  rfl

theorem leaveFrameEndAction_refused {s : State}
    (h : s.membership.state = .unconfigured ∨ s.membership.state = .standby ∨ s.membership.state = .detached ∨
      s.membership.state = .leaving) : leaveFrameEndAction s = s.reply .state := by
  rcases h with h | h | h | h <;> simp only [leaveFrameEndAction, h]

theorem leaveFrameEndAction_pending {s : State} (h : s.membership.state = .flushing ∨ s.membership.state = .active)
    (hp : s.membership.pendingLeave = some .frameEnd) : leaveFrameEndAction s = s.reply .accepted := by
  rcases h with h | h <;> simp only [leaveFrameEndAction, h, hp]

theorem leaveFrameEndAction_taken {s : State} (h : s.membership.state = .flushing ∨ s.membership.state = .active)
    (hp : s.membership.pendingLeave ≠ some .frameEnd) :
    leaveFrameEndAction s = s.leaveAtFrameEnd.reply .accepted := by
  unfold leaveFrameEndAction
  cases hl : s.membership.pendingLeave with
  | none => rcases h with h | h <;> simp only [h]
  | some mode =>
    cases mode with
    | frameEnd => exact absurd hl hp
    | segmentEnd => rcases h with h | h <;> simp only [h]

/-- Settles O22: where the own slot has passed the next frame is the leaving frame, else the current one. -/
theorem leaveAtFrameEndPicksItsLeavingFrame : Obligations.LeaveAtFrameEndPicksItsLeavingFrame := by
  intro s ht
  rw [exec_leaveFrameEnd ht]
  refine ⟨s.slotPassed_iff, fun h => ⟨fun hp => congrArg _ (leaveFrameEndAction_pending h hp),
    fun hp passed => congrArg _ ?nextFrame, fun hp passed => congrArg _ ?atOnce⟩,
    fun h => congrArg _ (leaveFrameEndAction_refused h)⟩
  case nextFrame =>
    rw [leaveFrameEndAction_taken h hp, State.leaveAtFrameEnd, if_pos passed, State.pendLeave_frameEnd]
  case atOnce =>
    rw [leaveFrameEndAction_taken h hp, State.leaveAtFrameEnd, passed]
    rfl

/-! ### LEAVE(SEGMENT_END) (R84, R86) -/

theorem exec_leaveSegmentEnd {s : State} (ht : s.ticking = true) :
    exec .leaveSegmentEnd s = .next (leaveSegmentEndAction s) := State.command_next ht

theorem leaveSegmentEndAction_refused {s : State}
    (h : s.membership.state = .unconfigured ∨ s.membership.state = .standby ∨ s.membership.state = .detached ∨
      s.membership.state = .leaving) : leaveSegmentEndAction s = s.reply .state := by
  rcases h with h | h | h | h <;> simp only [leaveSegmentEndAction, h]

theorem leaveSegmentEndAction_again {s : State} (h : s.membership.state = .flushing ∨ s.membership.state = .active)
    (hp : s.membership.pendingLeave = some .segmentEnd) : leaveSegmentEndAction s = s.reply .accepted := by
  rcases h with h | h <;> simp only [leaveSegmentEndAction, h, hp]

theorem leaveSegmentEndAction_behind_frameEnd {s : State}
    (h : s.membership.state = .flushing ∨ s.membership.state = .active)
    (hp : s.membership.pendingLeave = some .frameEnd) : leaveSegmentEndAction s = s.reply .state := by
  rcases h with h | h <;> simp only [leaveSegmentEndAction, h, hp]

theorem leaveSegmentEndAction_taken {s : State} (h : s.membership.state = .flushing ∨ s.membership.state = .active)
    (hp : s.membership.pendingLeave = none) :
    leaveSegmentEndAction s = s.leaveAtSegmentEnd.reply .accepted := by
  rcases h with h | h <;> simp only [leaveSegmentEndAction, h, hp]

/-- Where no repetition of the pass is left to run, the leave is at the frame's end (R86). -/
theorem State.leaveAtSegmentEnd_of_last {s : State} (hs : s.membership.state = .active)
    (h : s.cursor.parked = true ∨ s.cursor.lastRepetition = true) : s.leaveAtSegmentEnd = s.leaveAtFrameEnd :=
  if_pos ⟨hs, h⟩

/-- Otherwise it waits (R86). -/
theorem State.leaveAtSegmentEnd_of_waits {s : State}
    (h : s.membership.state = .flushing ∨
      (s.membership.state = .active ∧ s.cursor.parked = false ∧ s.cursor.lastRepetition = false)) :
    s.leaveAtSegmentEnd = s.pendLeave .segmentEnd := by
  refine if_neg ?_
  rintro ⟨active, last⟩
  rcases h with h | ⟨-, parked, repetition⟩
  · exact nomatch active.symm.trans h
  · simp [parked, repetition] at last

/-- Settles O23: the marker is the one judged on the lookahead held at the command. -/
theorem leaveAtSegmentEndWaitsForThePass : Obligations.LeaveAtSegmentEndWaitsForThePass := by
  intro s ht
  rw [exec_leaveSegmentEnd ht, exec_leaveFrameEnd ht]
  refine ⟨fun hs hp last => congrArg _ ?atOnce,
    fun h hp => ⟨(s.pendLeave .segmentEnd).membership.leavingFrame, congrArg _ ?waits, ?marker⟩,
    fun h => ⟨fun hp => congrArg _ (leaveSegmentEndAction_again h hp),
      fun hp => congrArg _ (leaveSegmentEndAction_behind_frameEnd h hp)⟩,
    fun h => congrArg _ (leaveSegmentEndAction_refused h)⟩
  case atOnce =>
    rw [leaveSegmentEndAction_taken (.inr hs) hp, leaveFrameEndAction_taken (.inr hs) (by rw [hp]; nofun),
      State.leaveAtSegmentEnd_of_last hs last]
  case waits =>
    have participates : s.membership.state = .flushing ∨ s.membership.state = .active := h.imp_right And.left
    rw [leaveSegmentEndAction_taken participates hp, State.leaveAtSegmentEnd_of_waits h]
    rfl
  case marker =>
    refine (State.judgeMarker_leavingFrame _).trans ⟨?_, ?_⟩
    · rintro ⟨-, left, n, q, look, plan, ends⟩
      exact ⟨n, q, look, plan, ends, left⟩
    · rintro ⟨n, q, look, plan, ends, left⟩
      exact ⟨rfl, left, n, q, look, plan, ends⟩

end Sys2Proof.Machine
end

section
/-! SUPPORT. The mark that makes an APPLY of the cursor's entry current (O32). -/

namespace Sys2Proof.Machine

/-! ### The pending leave mode over a repetition (R86, R126) -/

/-- Making an APPLY current is a repetition consumed (R125, R126). -/
theorem State.makeCurrent_apply (e : Fin 64) (s : State) :
    s.makeCurrent (.apply e) = (s.withCurrent (.apply e)).consume := by
  unfold State.makeCurrent State.withCurrent
  cases hp : s.headPlan (.apply e) <;> rfl

/-- Reaching an entry whose plan departs sets SEGMENT_END, over every mode but FRAME_END (R86). -/
theorem State.reachEntry_pendingLeave {s : State} {n : Fin 64} {q : Plan} (hn : s.cursor.entry = some n)
    (hq : s.plan? n = some q) (hl : s.membership.state ≠ .leaving) (hp : s.membership.pendingLeave ≠ some .frameEnd) :
    s.reachEntry.membership.pendingLeave =
      if q.link = .depart then some .segmentEnd else s.membership.pendingLeave := by
  rw [State.reachEntry_eq hn hq hl]
  cases hpend : s.membership.pendingLeave with
  | none => simp
  | some mode =>
    cases mode with
    | frameEnd => exact absurd hpend hp
    | segmentEnd => simp

theorem State.makeCurrent_pendingLeave_of_left {s : State} {e : Fin 64} {p : Plan} (he : s.cursor.entry = some e)
    (hp : s.plan? e = some p) (left : 2 ≤ s.cursor.repeatsLeft) :
    (s.makeCurrent (.apply e)).membership.pendingLeave = s.membership.pendingLeave := by
  have more : ¬ (s.withCurrent (.apply e)).cursor.repeatsLeft - 1 = 0 := by
    change ¬ s.cursor.repeatsLeft - 1 = 0
    omega
  rw [State.makeCurrent_apply, State.consume_eq (s := s.withCurrent _) he hp, if_neg more]
  rfl

theorem State.makeCurrent_pendingLeave_of_next {s : State} {e n : Fin 64} {p q : Plan} (he : s.cursor.entry = some e)
    (hp : s.plan? e = some p) (last : s.cursor.repeatsLeft ≤ 1) (hlink : p.link = .next n) (hq : s.plan? n = some q)
    (hl : s.membership.state ≠ .leaving) (hpend : s.membership.pendingLeave ≠ some .frameEnd) :
    (s.makeCurrent (.apply e)).membership.pendingLeave =
      if q.link = .depart then some .segmentEnd else s.membership.pendingLeave := by
  have none : (s.withCurrent (.apply e)).cursor.repeatsLeft - 1 = 0 := by
    change s.cursor.repeatsLeft - 1 = 0
    omega
  rw [State.makeCurrent_apply, State.consume_eq (s := s.withCurrent _) he hp, if_pos none, hlink]
  exact State.reachEntry_pendingLeave rfl hq hl hpend

/-! ### The marker of a frame begun (R127) -/

/-- The marker is judged on the lookahead chosen at the mark. -/
theorem State.begun_leavingFrame_iff (s : State) (start : FrameStart) (m : Membership) (c : Cursor) (e : EpochUnit) :
    (s.begun start m c e).membership.leavingFrame = true ↔
      m.pendingLeave = some .segmentEnd ∧ c.repeatsLeft = 1 ∧
        ∃ n q, (s.begun start m c e).cursor.lookahead = some (.apply n) ∧ s.plan? n = some q ∧ ∀ k, q.link ≠ .next k := by
  refine (State.endsPass_iff _ _).trans (and_congr_right fun _ => and_congr_right fun _ => ?_)
  refine exists₂_congr fun n q => and_congr_left fun _ => ?_
  exact Option.some_inj.symm

/-- Settles O32: the repetition consumed moves the cursor, and the marker is judged on the lookahead chosen from there. -/
theorem repetitionsRunOutAndMoveTheCursor : Obligations.RepetitionsRunOutAndMoveTheCursor := by
  intro e p s ht hr hw hb hst hturn hpend hmark hlook he hp
  have participant : s.rising.membership.state.participant = true :=
    (StationState.participant_iff _).2 (by tauto)
  have run := exec_frameMark_rise ht hr hw
  have stays : ¬ (s.rising.membership.pendingLeave = some .frameEnd ∨ s.rising.membership.leavingFrame = true) := by
    rintro (h | h)
    · exact hpend h
    · exact nomatch hmark.symm.trans h
  rw [State.actOnMark_next (s := s.rising) hb participant,
    State.beginFrame_staysOn (s := s.rising) (TurnState.not_due_of hturn) (State.heldContent_of hlook nofun) stays] at run
  have notLeaving : s.rising.stayOn.membership.state ≠ .leaving := fun h =>
    nomatch (StationState.stays_active hst).symm.trans h
  obtain ⟨last, left, next, stop, forever, passes, lastPass⟩ :=
    State.makeCurrent_consumes (s := s.rising.stayOn) (e := e) he hp
  refine ⟨_, run, State.makeCurrent_current _ s.rising.stayOn, State.makeCurrent_segment _ s.rising.stayOn, last,
    fun two => ?more, fun one => ⟨fun n q hlink hq => ?linked, stop one, fun k start q hlink hs hq =>
      ⟨forever one k start q hlink hs hq, passes one k start q hlink hs hq, lastPass one k hlink⟩⟩,
    State.begun_leavingFrame_iff s.rising .next _ _ _⟩
  case more =>
    obtain ⟨entry, repeats, loops, parked⟩ := left two
    exact ⟨entry, repeats, loops, parked, State.makeCurrent_pendingLeave_of_left (s := s.rising.stayOn) he hp two⟩
  case linked =>
    obtain ⟨entry, repeats, loops, parked⟩ := next one n q hlink hq
    exact ⟨entry, repeats, loops, parked,
      State.makeCurrent_pendingLeave_of_next (s := s.rising.stayOn) he hp one hlink hq notLeaving hpend⟩

end Sys2Proof.Machine
end

section
/-! SUPPORT. The epoch unit at a window end (O49). -/

namespace Sys2Proof.Machine

/-! ### What the closed list says of readiness (R134, R135) -/

theorem State.readyHeard_iff (s : State) (i : Fin 16) :
    s.readyHeard i = true ↔
      ∃ n, s.outcomeOf i = .valid n ∧ n.ready = true ∧ n.catchup = false ∧ n.epoch = s.epochs.epoch := by
  unfold State.readyHeard
  cases s.outcomeOf i <;> simp [and_assoc]

theorem State.allReady_iff (s : State) :
    s.allReady = true ↔ ∀ i : Fin 16, s.roster.required.getLsbD i.val = true →
      ∃ n, s.outcomeOf i = .valid n ∧ n.ready = true ∧ n.catchup = false ∧ n.epoch = s.epochs.epoch := by
  simp only [State.allReady, List.all_eq_true, List.mem_finRange, true_implies, Bool.or_eq_true, Bool.not_eq_true',
    ← State.readyHeard_iff]
  exact forall_congr' fun i => by cases s.roster.required.getLsbD i.val <;> simp

/-- The advance rule and the catch-up rule can apply (R135, R137, R139). -/
theorem State.decisive_iff (s : State) :
    s.decisive = true ↔ s.membership.state = .active ∧ s.epochs.turn = .idle ∧ s.epochs.announced = true ∧
      s.adoptsEpoch = false := by
  simp [State.decisive, and_assoc]

theorem State.decidesAdvance_iff (s : State) :
    s.decidesAdvance = true ↔ s.decisive = true ∧ s.completeView = true ∧ s.allReady = true := by
  simp [State.decidesAdvance, and_assoc]

theorem State.startsCatchUp_iff (s : State) :
    s.startsCatchUp = true ↔ s.decisive = true ∧ s.completeView = false := by
  simp [State.startsCatchUp]

theorem State.indecisive_of {s : State} (h : s.epochs.turn ≠ .idle ∨ s.epochs.announced = false) :
    s.decisive = false := by
  rw [← Bool.not_eq_true, State.decisive_iff]
  rintro ⟨-, idle, announced, -⟩
  exact h.elim (fun no => no idle) fun no => nomatch no.symm.trans announced

/-! ### The turn state after the handoff, case by case (R133, R135, R137 to R139) -/

theorem EpochUnit.settleUnready_eq (e : EpochUnit) :
    e.settleUnready = { e with ready := if e.deferred then none else e.ready, deferred := false } := by
  obtain ⟨epoch, staged, ready, announced, deferred, turn, newcomer⟩ := e
  cases deferred <;> rfl

/-- The rules of the turn state in their order (R133, R135, R137 to R139). -/
theorem State.turnAfter_eq (s : State) :
    s.turnAfter =
      if s.adoptsEpoch then
        if s.membership.state = .active then { s.epochs with ready := none, deferred := false }
        else s.epochs.settleUnready
      else if s.decidesAdvance then { s.epochs with turn := .advanceDue false, deferred := false }
      else if s.startsCatchUp then { s.epochs with turn := .catchingUp, deferred := false }
      else if s.epochs.turn = .catchingUp then
        { s.epochs with turn := if s.oneAheadHeard then .advanceDue true else .idle }
      else s.epochs.settleUnready := rfl

theorem State.turnAfter_of_adopts {s : State} (h : s.adoptsEpoch = true) (hs : s.membership.state = .active) :
    s.turnAfter = { s.epochs with ready := none, deferred := false } :=
  s.turnAfter_eq.trans ((if_pos h).trans (if_pos hs))

/-- Where no epoch is adopted the later rules apply. -/
theorem State.turnAfter_of_not_adopts {s : State} (h : s.adoptsEpoch = false) :
    s.turnAfter =
      if s.decidesAdvance then { s.epochs with turn := .advanceDue false, deferred := false }
      else if s.startsCatchUp then { s.epochs with turn := .catchingUp, deferred := false }
      else if s.epochs.turn = .catchingUp then
        { s.epochs with turn := if s.oneAheadHeard then .advanceDue true else .idle }
      else s.epochs.settleUnready :=
  s.turnAfter_eq.trans (if_neg (Bool.eq_false_iff.1 h))

theorem State.turnAfter_of_advance {s : State} (h : s.decidesAdvance = true) :
    s.turnAfter = { s.epochs with turn := .advanceDue false, deferred := false } := by
  obtain ⟨-, -, -, adopts⟩ := s.decisive_iff.1 (s.decidesAdvance_iff.1 h).1
  exact (State.turnAfter_of_not_adopts adopts).trans (if_pos h)

theorem State.turnAfter_of_catchUp {s : State} (h : s.startsCatchUp = true) :
    s.turnAfter = { s.epochs with turn := .catchingUp, deferred := false } := by
  obtain ⟨decisive, incomplete⟩ := s.startsCatchUp_iff.1 h
  obtain ⟨-, -, -, adopts⟩ := s.decisive_iff.1 decisive
  have noAdvance : ¬ s.decidesAdvance = true := fun advance =>
    nomatch incomplete.symm.trans (s.decidesAdvance_iff.1 advance).2.1
  exact (State.turnAfter_of_not_adopts adopts).trans ((if_neg noAdvance).trans (if_pos h))

/-- A station decides nothing that is not decisive, or whose view is complete and not ready. -/
theorem State.turnAfter_of_undecided {s : State} (ha : s.adoptsEpoch = false)
    (hd : s.decisive = false ∨ (s.completeView = true ∧ s.allReady = false)) :
    s.turnAfter =
      if s.epochs.turn = .catchingUp then
        { s.epochs with turn := if s.oneAheadHeard then .advanceDue true else .idle }
      else s.epochs.settleUnready := by
  have noAdvance : ¬ s.decidesAdvance = true := by
    rw [State.decidesAdvance_iff]
    rintro ⟨decisive, -, ready⟩
    exact hd.elim (fun h => nomatch h.symm.trans decisive) fun h => nomatch h.2.symm.trans ready
  have noCatchUp : ¬ s.startsCatchUp = true := by
    rw [State.startsCatchUp_iff]
    rintro ⟨decisive, incomplete⟩
    exact hd.elim (fun h => nomatch h.symm.trans decisive) fun h => nomatch h.1.symm.trans incomplete
  exact (State.turnAfter_of_not_adopts ha).trans ((if_neg noAdvance).trans (if_neg noCatchUp))

/-- A catch-up resolves at the next window end that adopts no epoch (R138). -/
theorem State.turnAfter_of_catchingUp {s : State} (ha : s.adoptsEpoch = false) (h : s.epochs.turn = .catchingUp) :
    s.turnAfter = { s.epochs with turn := if s.oneAheadHeard then .advanceDue true else .idle } := by
  have busy : s.epochs.turn ≠ .idle := by
    rw [h]
    nofun
  exact (State.turnAfter_of_undecided ha (.inl (State.indecisive_of (.inl busy)))).trans (if_pos h)

/-- Where nothing is decided outside a catch-up, a deferred unready takes effect (R133). -/
theorem State.turnAfter_of_nothing {s : State} (ha : s.adoptsEpoch = true → s.membership.state ≠ .active)
    (hd : s.decisive = false ∨ (s.completeView = true ∧ s.allReady = false)) (ht : s.epochs.turn ≠ .catchingUp) :
    s.turnAfter =
      { s.epochs with ready := if s.epochs.deferred then none else s.epochs.ready, deferred := false } := by
  rw [← EpochUnit.settleUnready_eq]
  cases adopts : s.adoptsEpoch with
  | true => exact s.turnAfter_eq.trans ((if_pos adopts).trans (if_neg (ha adopts)))
  | false => exact (State.turnAfter_of_undecided adopts hd).trans (if_neg ht)

/-- Announced readiness stays as the mark and the own note left it. -/
theorem State.epochsAtEnd_announced (s : State) : s.epochsAtEnd.announced = s.epochs.announced := by
  change s.turnAfter.announced = s.epochs.announced
  rw [State.turnAfter_eq, EpochUnit.settleUnready_eq]
  split_ifs <;> rfl

/-! ### The epoch and the newcomer (R139) -/

/-- Only a listener and a FLUSHING founder take the epoch with an adoption (R17, R19). -/
theorem State.takesEpoch_of_neither {s : State} (hl : s.membership.state ≠ .listening)
    (hf : s.membership.state ≠ .flushing) :
    s.adoption.takesEpoch = false :=
  (Adoption.takesEpoch_iff _).2 fun f e =>
    ⟨fun ha => hl ((s.listeningAdoption_iff f e).1 (State.adoption_listening_iff.1 ha)).1,
      fun ha => hf ((s.yieldAdoption_iff f e).1 (State.adoption_yield_iff.1 ha)).1⟩

theorem State.epochAfter_of_takes {s : State} {epoch : EpochNo}
    (h : ∃ frame, s.adoption = .listening frame epoch ∨ s.adoption = .yield frame epoch) : s.epochAfter = epoch := by
  obtain ⟨frame, h | h⟩ := h <;> simp only [State.epochAfter, h]

theorem State.isNewcomer_iff (s : State) :
    s.isNewcomer = true ↔
      s.membership.state = .joining ∨ s.membership.state = .founding ∨ s.membership.state = .flushing ∨
        ∃ frame epoch, s.adoption = .listening frame epoch := by
  unfold State.isNewcomer
  cases s.adoption <;> simp [or_assoc]

/-! ### The lookahead of a catch-up (R137) -/

theorem State.finish_cursor {s : State} (h : s.membership.state ≠ .leaving) (chains : List (List Record)) :
    (s.finish chains).cursor = s.cursor := by
  by_cases last : s.barrier.last
  · rw [State.finish_of_last last h]
    rfl
  · rw [State.finish_of_not_last last]
    rfl

theorem State.handoff_catchUp {s : State} (hf : s.endFault = none) (hc : s.startsCatchUp = true) :
    s.handoff.cursor.lookahead = some .abstain := by
  obtain ⟨active, -⟩ := s.decisive_iff.1 (s.startsCatchUp_iff.1 hc).1
  have state : s.afterHandoff.membership.state ≠ .leaving := by
    obtain ⟨look, leavingFrame, closes⟩ := s.closesWith
    rw [closes.eq, State.closed, State.membershipAtEnd_state, active]
    nofun
  rw [State.handoff_of_none hf, State.finish_cursor state, State.afterHandoff, State.cursorAtEnd_catchUp hc]
  rfl

theorem windowEnd_catchUp {s : State} (hf : s.endFault = none) (hc : s.startsCatchUp = true) :
    (s.advanceTo s.windowEndTick).handoff.cursor.lookahead = some .abstain := by
  obtain ⟨settle, lows, highs, sampled, marked, e⟩ := s.advanceTo_lapsed s.windowEndTick
  rw [e]
  exact State.handoff_catchUp (s := s.lapsed _ settle lows highs sampled marked) hf hc

/-! ### The window end of an ACTIVE station, and of any other -/

/-- An ACTIVE station takes no epoch from an adoption (R17, R19). -/
theorem State.takesEpoch_of_active {s : State} (h : s.membership.state = .active) : s.adoption.takesEpoch = false :=
  State.takesEpoch_of_neither (by rw [h]; nofun) (by rw [h]; nofun)

/-- An ACTIVE newcomer adopts the next epoch when it hears it (R139). -/
theorem State.adoptsEpoch_of_active {s : State} (h : s.membership.state = .active) :
    s.adoptsEpoch = (s.epochs.newcomer && s.oneAheadHeard) := by
  rw [State.adoptsEpoch, State.takesEpoch_of_active h, Bool.not_false, Bool.and_true]

theorem State.isNewcomer_of_active {s : State} (h : s.membership.state = .active) : s.isNewcomer = false := by
  rw [← Bool.not_eq_true, State.isNewcomer_iff, h]
  rintro (no | no | no | ⟨frame, epoch, listens⟩)
  any_goals cases no
  exact nomatch h.symm.trans ((s.listens_iff frame epoch).1 listens).1

/-- Settles O49: the handoff of the epoch unit, at an ACTIVE station by its turn state, at any other by the adoption. -/
theorem windowEndsTurnTheEpochUnit : Obligations.WindowEndsTurnTheEpochUnit := by
  intro s ht hw hf
  have run := exec_windowEnd ht hw
  refine ⟨fun active => ⟨_, run, ?active⟩, fun other stays => ?other⟩
  case active =>
    have h := (windowEnd_handsOver hf).2.1 fun leaves => nomatch active.symm.trans leaves.2
    have adopts := State.adoptsEpoch_of_active active
    have epoch := State.epochAfter_of (State.takesEpoch_of_active active)
    refine ⟨h.state.trans active, ?_⟩
    intro allReady oneAhead
    have ready : s.allReady = true ↔ allReady := s.allReady_iff
    have heard : s.oneAheadHeard = true ↔ oneAhead := s.oneAheadHeard_iff
    rw [h.epochs]
    refine ⟨fun newcomer ahead => ?adopts, fun no => ?keeps, s.epochsAtEnd_staged,
      State.isNewcomer_of_active active⟩
    case adopts =>
      have yes : s.adoptsEpoch = true := by rw [adopts, newcomer, heard.2 ahead, Bool.and_true]
      rw [State.epochsAtEnd, State.turnAfter_of_adopts yes active, epoch, if_pos yes]
      exact ⟨rfl, rfl, rfl, rfl⟩
    case keeps =>
      have never : s.adoptsEpoch = false := by
        rw [← Bool.not_eq_true, adopts, Bool.and_eq_true]
        exact fun yes => no ⟨yes.1, heard.1 yes.2⟩
      have decisive (idle : s.epochs.turn = .idle) (announced : s.epochs.announced = true) : s.decisive = true :=
        s.decisive_iff.2 ⟨active, idle, announced, never⟩
      have settles (hd : s.decisive = false ∨ (s.completeView = true ∧ s.allReady = false)) :=
        State.turnAfter_of_nothing (s := s) (fun yes => nomatch never.symm.trans yes) hd
      rw [State.epochsAtEnd]
      refine ⟨epoch.trans (if_neg (by simp [never])), fun idle announced => ⟨fun complete all => ?advance,
        fun complete notAll => ?unready, fun incomplete => ?catchUp⟩, fun no noCatchUp => ?nothing,
        fun catchingUp ahead => ?late, fun catchingUp behind => ?abandoned⟩
      case advance =>
        rw [State.turnAfter_of_advance (s.decidesAdvance_iff.2 ⟨decisive idle announced, complete, ready.2 all⟩)]
        exact ⟨rfl, rfl, rfl⟩
      case unready =>
        rw [settles (.inr ⟨complete, Bool.eq_false_iff.2 (mt ready.1 notAll)⟩) (by rw [idle]; nofun)]
        exact ⟨idle, rfl, rfl⟩
      case catchUp =>
        have starts := s.startsCatchUp_iff.2 ⟨decisive idle announced, incomplete⟩
        rw [State.turnAfter_of_catchUp starts]
        exact ⟨rfl, rfl, rfl, windowEnd_catchUp hf starts⟩
      case nothing =>
        rw [settles (.inl (State.indecisive_of no)) noCatchUp]
        exact ⟨rfl, rfl, rfl⟩
      case late =>
        rw [State.turnAfter_of_catchingUp never catchingUp, if_pos (heard.2 ahead)]
        exact ⟨rfl, rfl⟩
      case abandoned =>
        rw [State.turnAfter_of_catchingUp never catchingUp, if_neg (mt heard.1 behind)]
        exact ⟨rfl, rfl⟩
  case other =>
    intro takes adopts
    have h := (windowEnd_handsOver hf).2.1 fun ⟨⟨holding, minTime, exposures, strobes, _⟩, leaving⟩ =>
      stays ⟨leaving, holding, minTime, exposures, strobes⟩
    have takesNone : (∀ epoch, ¬ takes epoch) ↔ ∀ f e, s.adoption ≠ .listening f e ∧ s.adoption ≠ .yield f e :=
      ⟨fun no f e => ⟨fun ha => no e ⟨f, .inl ha⟩, fun ha => no e ⟨f, .inr ha⟩⟩,
        fun no epoch ⟨f, ha⟩ => ha.elim (no f epoch).1 (no f epoch).2⟩
    have adoptsIff : s.adoptsEpoch = true ↔ adopts :=
      s.adoptsEpoch_iff.trans (and_congr_right fun _ => and_congr_left fun _ => takesNone.symm)
    have epochOf (no : ∀ epoch, ¬ takes epoch) :=
      State.epochAfter_of ((Adoption.takesEpoch_iff s.adoption).2 (takesNone.1 no))
    have indecisive : s.decisive = false := by
      rw [← Bool.not_eq_true, State.decisive_iff]
      exact fun decisive => other decisive.1
    refine ⟨_, run, h.state, ?_⟩
    rw [h.epochs]
    refine ⟨fun epoch => State.epochAfter_of_takes,
      fun yes => (epochOf yes.2.1).trans (if_pos (adoptsIff.2 yes)),
      fun none no => (epochOf none).trans (if_neg (mt adoptsIff.1 no)),
      s.isNewcomer_iff, s.epochsAtEnd_staged, s.epochsAtEnd_announced, fun turn => ?settles⟩
    case settles =>
      rw [State.epochsAtEnd, State.turnAfter_of_nothing (fun _ => other) (.inl indecisive) turn]
      exact ⟨rfl, rfl, rfl⟩

end Sys2Proof.Machine
end

section
/-! SUPPORT. The verify walk: the checks of one entry, the walk along a chain, and the verdict of both passes (O19). -/

namespace Sys2Proof.Machine

-- The option has each proof elaborated where it stands: as one text the package has more proofs waiting at once than the
-- compile has threads (as in Tests/Slice0.lean), and these would add to them.
set_option deprecated.oldSectionVars true

/-! ### The checks of an entry (R115) -/

/-- A plan fails a check of the FIELDS pass. -/
def Plan.Fails (holdTicks : Nat) (p : Plan) : FailCode → Prop
  | .minFrame => holdTicks < p.minFrameTime
  | .phase => p.divisor ≤ p.phase
  | .dupChannel => ¬ (p.records.map (·.channel)).Nodup
  | .dupLane => ¬ (p.records.filterMap (·.lane)).Nodup
  | .busyTime => holdTicks < p.busyTime
  | .linkEmpty | .cycle => False

/-- An entry that is EMPTY or passes every check. -/
def EntryClean (table : PlanTable) (holdTicks : Nat) (e : Fin 64) : Prop :=
  ∀ p c, table.get e = some p → ¬ p.Fails holdTicks c

section
variable {table : PlanTable} {holdTicks : Nat}

theorem Plan.firstFault_of_fails {p : Plan} {c : FailCode} (fails : p.Fails holdTicks c)
    (before : ∀ d : FailCode, d.code < c.code → ¬ p.Fails holdTicks d) : p.firstFault holdTicks = some c := by
  unfold Plan.firstFault
  cases c with
  | minFrame => exact if_pos fails
  | phase => exact (if_neg (before .minFrame (by decide))).trans (if_pos fails)
  | dupChannel =>
    exact (if_neg (before .minFrame (by decide))).trans ((if_neg (before .phase (by decide))).trans (if_pos fails))
  | dupLane =>
    exact (if_neg (before .minFrame (by decide))).trans ((if_neg (before .phase (by decide))).trans
      ((if_neg (before .dupChannel (by decide))).trans (if_pos fails)))
  | busyTime =>
    exact (if_neg (before .minFrame (by decide))).trans ((if_neg (before .phase (by decide))).trans
      ((if_neg (before .dupChannel (by decide))).trans ((if_neg (before .dupLane (by decide))).trans (if_pos fails))))
  | linkEmpty => exact fails.elim
  | cycle => exact fails.elim

/-- A plan passes all checks where the walk finds no fault. -/
theorem Plan.firstFault_eq_none_iff {p : Plan} : p.firstFault holdTicks = none ↔ ∀ c, ¬ p.Fails holdTicks c := by
  refine ⟨fun none c => ?_, fun passes => ?_⟩
  · induction code : c.code using Nat.strong_induction_on generalizing c with
    | _ n ih =>
      intro fails
      have fault := Plan.firstFault_of_fails fails fun d less => ih d.code (code ▸ less) d rfl
      exact nomatch none.symm.trans fault
  · exact (if_neg (passes .minFrame)).trans ((if_neg (passes .phase)).trans ((if_neg (passes .dupChannel)).trans
      ((if_neg (passes .dupLane)).trans (if_neg (passes .busyTime)))))

/-- What the FIELDS pass finds at an entry. -/
theorem entryFault_eq_none_iff {e : Fin 64} :
    (table.get e).bind (Plan.firstFault holdTicks) = none ↔ EntryClean table holdTicks e := by
  simp only [Option.bind_eq_none_iff, Plan.firstFault_eq_none_iff, EntryClean]
  exact forall_congr' fun _ => forall_comm

/-! ### The FIELDS pass (R114, R115) -/

theorem fieldsPass_cons_clean {e : Fin 64} (clean : EntryClean table holdTicks e) (rest : List (Fin 64)) :
    fieldsPass table holdTicks (e :: rest) = fieldsPass table holdTicks rest := by
  rw [fieldsPass, entryFault_eq_none_iff.2 clean]

theorem fieldsPass_append_clean {entries : List (Fin 64)} (clean : ∀ e ∈ entries, EntryClean table holdTicks e)
    (rest : List (Fin 64)) : fieldsPass table holdTicks (entries ++ rest) = fieldsPass table holdTicks rest := by
  induction entries with
  | nil => rfl
  | cons e entries ih =>
    rw [List.cons_append, fieldsPass_cons_clean (clean e List.mem_cons_self),
      ih fun d hd => clean d (List.mem_cons_of_mem e hd)]

theorem fieldsPass_eq_none_iff {entries : List (Fin 64)} :
    fieldsPass table holdTicks entries = none ↔ ∀ e ∈ entries, EntryClean table holdTicks e := by
  refine ⟨fun none => ?_, fun clean => ?_⟩
  · induction entries with
    | nil => simp
    | cons e entries ih =>
      have clean : EntryClean table holdTicks e := by
        rw [← entryFault_eq_none_iff]
        cases fault : (table.get e).bind (Plan.firstFault holdTicks) with
        | none => rfl
        | some code => simp [fieldsPass, fault] at none
      rw [fieldsPass_cons_clean clean] at none
      exact List.forall_mem_cons.2 ⟨clean, ih none⟩
  · simpa [fieldsPass] using fieldsPass_append_clean clean []

/-- The entries in ascending order, cut at one of them. -/
theorem finRange_split (e : Fin 64) :
    ∃ rest, List.finRange 64 = (List.finRange 64).filter (fun d => decide (d.val < e.val)) ++ e :: rest := by
  obtain ⟨below, above, split⟩ := List.append_of_mem (List.mem_finRange e)
  have sorted : (below ++ e :: above).Pairwise (· < ·) := split ▸ List.pairwise_lt_finRange 64
  rw [List.pairwise_append, List.pairwise_cons] at sorted
  obtain ⟨-, ⟨later, -⟩, earlier⟩ := sorted
  have kept : below.filter (fun d => decide (d.val < e.val)) = below :=
    List.filter_eq_self.2 fun d hd => decide_eq_true (earlier d hd e List.mem_cons_self)
  have dropped : (e :: above).filter (fun d => decide (d.val < e.val)) = [] := by
    simpa using fun d hd => (later d hd).le
  exact ⟨above, by rw [split, List.filter_append, kept, dropped, List.append_nil]⟩

/-- The walk ends at the first entry that fails a check (R115). -/
theorem walk_of_fault {e : Fin 64} {p : Plan} {c : FailCode} (held : table.get e = some p)
    (fault : p.firstFault holdTicks = some c) (before : ∀ d, d < e → EntryClean table holdTicks d) :
    walk table holdTicks = (20 * (e.val + 1), .fail e c) := by
  obtain ⟨rest, split⟩ := finRange_split e
  have found : fieldsPass table holdTicks (List.finRange 64) = some (20 * (e.val + 1), .fail e c) := by
    rw [split, fieldsPass_append_clean fun d hd => before d (Fin.lt_def.2 (by simpa using hd))]
    simp [fieldsPass, held, fault, Config.ticksPerEntry]
  rw [walk, found]

/-- Where no entry fails a check, the CHAINS pass gives the verdict (R117). -/
theorem walk_of_clean (clean : ∀ e, EntryClean table holdTicks e) :
    walk table holdTicks = chainsPass table 1280 (validEntries table) := by
  rw [walk, fieldsPass_eq_none_iff.2 fun e _ => clean e]
  rfl

end

/-! ### Paths of links (R103) -/

/-- Every entry of a path but the last links to the one after it. -/
def Linked (table : PlanTable) (path : List (Fin 64)) : Prop :=
  ∀ (k : Nat) (a b : Fin 64), path[k]? = some a → path[k + 1]? = some b → ∃ p, table.get a = some p ∧ p.link = .next b

/-- A chain from an entry: a path of links that meets no entry twice. -/
def ChainFrom (table : PlanTable) (e : Fin 64) (path : List (Fin 64)) : Prop :=
  path.head? = some e ∧ path.Nodup ∧ Linked table path

/-- A sound chain ends at an entry whose link is END. -/
def SoundFrom (table : PlanTable) (e : Fin 64) (path : List (Fin 64)) : Prop :=
  ChainFrom table e path ∧ ∃ x q, path.getLast? = some x ∧ table.get x = some q ∧ ∀ m, q.link ≠ .next m

section
variable {table : PlanTable} {e : Fin 64} {path : List (Fin 64)}

theorem linked_singleton (table : PlanTable) (e : Fin 64) : Linked table [e] :=
  fun k _ _ _ next => by simp at next

theorem linked_cons_cons {a b : Fin 64} :
    Linked table (a :: b :: path) ↔ (∃ p, table.get a = some p ∧ p.link = .next b) ∧ Linked table (b :: path) := by
  refine ⟨fun linked => ⟨linked 0 a b rfl rfl, fun k => linked (k + 1)⟩, fun ⟨first, rest⟩ k x y hx hy => ?_⟩
  cases k with
  | zero => cases hx; cases hy; exact first
  | succ k => exact rest k x y hx hy

/-- Every entry of a path of links whose last entry is VALID is VALID. -/
theorem Linked.valid {x y : Fin 64} (linked : Linked table path) (last : path.getLast? = some x)
    (valid : (table.get x).isSome = true) (mem : y ∈ path) : (table.get y).isSome = true := by
  obtain ⟨k, hk⟩ := List.mem_iff_getElem?.1 mem
  cases next : path[k + 1]? with
  | some z =>
    obtain ⟨p, held, -⟩ := linked k y z hk next
    simp [held]
  | none =>
    have inside := (List.getElem?_eq_some_iff.1 hk).1
    have beyond := List.getElem?_eq_none_iff.1 next
    rw [List.getLast?_eq_getElem?, show path.length - 1 = k by omega, hk] at last
    exact Option.some.inj last ▸ valid

theorem length_le_of_nodup (nodup : path.Nodup) : path.length ≤ 64 := by simpa using nodup.length_le_card

/-! ### The walk along a chain (R117) -/

theorem verifyChain_next {p : Plan} {m : Fin 64} (held : table.get e = some p) (link : p.link = .next m)
    (valid : (table.get m).isSome = true) (fuel : Nat) {met : List (Fin 64)} (fresh : m ∉ e :: met) :
    verifyChain table (fuel + 1) met e =
      ((verifyChain table fuel (e :: met) m).1 + 1, (verifyChain table fuel (e :: met) m).2) := by
  have notEmpty : (table.get m).isNone = false := by simpa using valid
  have notMet : (e :: met).contains m = false := by simpa using fresh
  simp only [verifyChain, held, Option.map_some, link, notEmpty, notMet, Bool.false_eq_true, if_false]

/-- The walk along a path takes a tick for every entry, and ends as it does at the last one. -/
theorem verifyChain_path {x : Fin 64} {ending : ChainEnd} (fuel : Nat) (met : List (Fin 64))
    (head : path.head? = some e) (nodup : path.Nodup) (linked : Linked table path)
    (last : path.getLast? = some x) (valid : (table.get x).isSome = true) (fresh : ∀ y ∈ path, y ∉ met)
    (length : path.length ≤ fuel)
    (ends : ∀ fuel seen, (∀ y, y ∈ x :: seen ↔ y ∈ path ∨ y ∈ met) →
      verifyChain table (fuel + 1) seen x = (1, ending)) :
    verifyChain table fuel met e = (path.length, ending) := by
  induction path generalizing fuel met e with
  | nil => cases head
  | cons a rest ih =>
    obtain rfl : a = e := by simpa using head
    obtain ⟨fuel, rfl⟩ : ∃ n, fuel = n + 1 := ⟨fuel - 1, by simp at length; omega⟩
    obtain ⟨notLater, nodup⟩ := List.nodup_cons.1 nodup
    cases rest with
    | nil =>
      obtain rfl : a = x := by simpa using last
      exact ends fuel met (by simp)
    | cons b rest =>
      obtain ⟨⟨p, held, link⟩, linked⟩ := linked_cons_cons.1 linked
      have last : (b :: rest).getLast? = some x := by simpa using last
      have freshRest : ∀ y ∈ b :: rest, y ∉ a :: met := by
        intro y hy
        rw [List.mem_cons, not_or]
        exact ⟨fun same => notLater (same ▸ hy), fresh y (List.mem_cons_of_mem a hy)⟩
      have validNext := linked.valid last valid List.mem_cons_self
      have rest := ih fuel (a :: met) rfl nodup linked last freshRest (by simpa using length) fun fuel seen same =>
        ends fuel seen fun y => by rw [same, List.mem_cons (b := a), List.mem_cons (b := a)]; tauto
      rw [verifyChain_next held link validNext fuel (freshRest b List.mem_cons_self), rest]
      rfl

theorem ChainFrom.verifyChain {x : Fin 64} {q : Plan} {ending : ChainEnd} (chain : ChainFrom table e path)
    (last : path.getLast? = some x) (held : table.get x = some q)
    (ends : ∀ fuel seen, (∀ y, y ∈ x :: seen ↔ y ∈ path) → verifyChain table (fuel + 1) seen x = (1, ending)) :
    verifyChain table 64 [] e = (path.length, ending) := by
  obtain ⟨head, nodup, linked⟩ := chain
  exact verifyChain_path 64 [] head nodup linked last (by simp [held]) (by simp) (length_le_of_nodup nodup)
    fun fuel seen same => ends fuel seen (by simpa using same)

/-- A sound chain is walked to its END entry. -/
theorem SoundFrom.verifyChain (sound : SoundFrom table e path) :
    verifyChain table 64 [] e = (path.length, .sound) := by
  obtain ⟨chain, x, q, last, held, ends⟩ := sound
  refine chain.verifyChain last held fun fuel seen _ => ?_
  cases link : q.link with
  | next m => exact absurd link (ends m)
  | _ => simp [Machine.verifyChain, held, link]

section
variable {x m : Fin 64} {q : Plan} (chain : ChainFrom table e path) (last : path.getLast? = some x)
  (held : table.get x = some q) (link : q.link = .next m)
include chain last held link

theorem ChainFrom.verifyChain_linkEmpty (empty : table.get m = none) :
    Machine.verifyChain table 64 [] e = (path.length, .linkEmpty x) :=
  chain.verifyChain last held fun _ _ _ => by simp [Machine.verifyChain, held, link, empty]

theorem ChainFrom.verifyChain_cycle (mem : m ∈ path) :
    Machine.verifyChain table 64 [] e = (path.length, .cycle) := by
  have notEmpty : (table.get m).isNone = false := by simpa using chain.2.2.valid last (by simp [held]) mem
  refine chain.verifyChain last held fun fuel seen same => ?_
  have met : (x :: seen).contains m = true := by simpa using (same m).2 mem
  simp only [Machine.verifyChain, held, Option.map_some, link, notEmpty, met, Bool.false_eq_true, if_false, if_true]

end

/-- A chain that the walk finds sound is the segment's chain, and its last entry's link is END. -/
theorem chainWalk_end_of_verifyChain_sound (fuel : Nat) (met : List (Fin 64)) (valid : (table.get e).isSome = true)
    (fresh : e ∉ met) (sound : (verifyChain table fuel met e).2 = .sound) :
    ∃ x q, (chainWalk table fuel met e).getLast? = some x ∧ table.get x = some q ∧ ∀ m, q.link ≠ .next m := by
  induction fuel generalizing met e with
  | zero => cases sound
  | succ fuel ih =>
    obtain ⟨p, held⟩ := Option.isSome_iff_exists.1 valid
    have notMet : met.contains e = false := by simpa using fresh
    cases link : p.link with
    | next m =>
      by_cases empty : (table.get m).isNone = true
      · simp [verifyChain, held, link, empty] at sound
      by_cases again : m ∈ e :: met
      · have again : (e :: met).contains m = true := by simpa using again
        simp only [verifyChain, held, Option.map_some, link, empty, again, Bool.false_eq_true, if_false, if_true] at sound
        cases sound
      · have validNext : (table.get m).isSome = true := by simpa [Option.ne_none_iff_isSome] using empty
        rw [verifyChain_next held link validNext fuel again] at sound
        obtain ⟨x, q, last, ends⟩ := ih (e :: met) validNext again sound
        refine ⟨x, q, ?_, ends⟩
        simp [chainWalk, fresh, held, link, List.getLast?_cons, last]
    | _ => exact ⟨e, p, by simp [chainWalk, fresh, held, link], held, by simp [link]⟩

/-! ### The CHAINS pass (R114, R117) -/

theorem chainsPass_append_sound {length : Fin 64 → Nat} {entries : List (Fin 64)}
    (sound : ∀ e ∈ entries, verifyChain table 64 [] e = (length e, .sound)) (t : Nat) (rest : List (Fin 64)) :
    chainsPass table t (entries ++ rest) = chainsPass table (t + (entries.map length).sum) rest := by
  induction entries generalizing t with
  | nil => rfl
  | cons e entries ih =>
    rw [List.cons_append, chainsPass, sound e List.mem_cons_self, List.map_cons, List.sum_cons, ← Nat.add_assoc]
    exact ih (fun d hd => sound d (List.mem_cons_of_mem e hd)) _

theorem verifyChain_sound_of_chainsPass {t : Nat} {entries : List (Fin 64)}
    (pass : (chainsPass table t entries).2 = .pass) : ∀ e ∈ entries, (verifyChain table 64 [] e).2 = .sound := by
  induction entries generalizing t with
  | nil => simp
  | cons e entries ih =>
    rw [chainsPass] at pass
    split at pass
    · next n walked => exact List.forall_mem_cons.2 ⟨by rw [walked], ih pass⟩
    · cases pass
    · cases pass

/-- The VALID entries below an entry. -/
def validBelow (table : PlanTable) (below : Nat) : List (Fin 64) :=
  (List.finRange 64).filter fun e => decide (e.val < below) && (table.get e).isSome

theorem mem_validBelow {below : Nat} {d : Fin 64} :
    d ∈ validBelow table below ↔ d.val < below ∧ (table.get d).isSome = true := by
  simp [validBelow]

theorem mem_validEntries {d : Fin 64} : d ∈ validEntries table ↔ (table.get d).isSome = true := by simp [validEntries]

theorem validBelow_all (table : PlanTable) : validBelow table 64 = validEntries table :=
  List.filter_congr fun e _ => by simp [e.isLt]

/-- The CHAINS pass comes to an entry's chain after those of the VALID entries below it. -/
theorem validEntries_split (valid : (table.get e).isSome = true) :
    ∃ rest, validEntries table = validBelow table e.val ++ e :: rest := by
  obtain ⟨rest, split⟩ := finRange_split e
  refine ⟨rest.filter fun d => (table.get d).isSome, ?_⟩
  have below : validBelow table e.val =
      ((List.finRange 64).filter fun d => decide (d.val < e.val)).filter fun d => (table.get d).isSome := by
    rw [List.filter_filter]
    exact List.filter_congr fun d _ => Bool.and_comm _ _
  rw [validEntries, below]
  conv_lhs => rw [split, List.filter_append, List.filter_cons_of_pos (by exact valid)]

/-- Where the chains below an entry are sound, the pass comes to its chain after all their ticks. -/
theorem chainsPass_at {paths : Fin 64 → List (Fin 64)} (valid : (table.get e).isSome = true)
    (sound : ∀ d, d < e → (table.get d).isSome = true → SoundFrom table d (paths d)) (t : Nat) :
    ∃ rest, chainsPass table t (validEntries table) =
      chainsPass table (t + ((validBelow table e.val).map fun d => (paths d).length).sum) (e :: rest) := by
  obtain ⟨rest, split⟩ := validEntries_split valid
  refine ⟨rest, ?_⟩
  rw [split]
  refine chainsPass_append_sound (fun d hd => ?_) t _
  obtain ⟨below, valid⟩ := mem_validBelow.1 hd
  exact (sound d below valid).verifyChain

theorem chainsPass_of_sound {paths : Fin 64 → List (Fin 64)}
    (sound : ∀ d, (table.get d).isSome = true → SoundFrom table d (paths d)) (t : Nat) :
    chainsPass table t (validEntries table) =
      (t + ((validBelow table 64).map fun d => (paths d).length).sum, .pass) := by
  have all := chainsPass_append_sound (length := fun d => (paths d).length)
    (fun d hd => (sound d (mem_validEntries.1 hd)).verifyChain) t []
  rwa [List.append_nil, ← validBelow_all] at all

end

/-! ### The verdict (R118) -/

theorem fieldsPass_not_pass {table : PlanTable} {holdTicks : Nat} {entries : List (Fin 64)} {r : Nat × VerifyResult}
    (found : fieldsPass table holdTicks entries = some r) : r.2 ≠ .pass := by
  induction entries with
  | nil => cases found
  | cons e entries ih =>
    rw [fieldsPass] at found
    split at found
    · cases found; nofun
    · exact ih found

/-- A PASS says that every entry passed its checks and that its chain is sound. -/
theorem walk_pass {table : PlanTable} {holdTicks : Nat} (pass : (walk table holdTicks).2 = .pass) :
    (∀ e, EntryClean table holdTicks e) ∧
      ∀ e, (table.get e).isSome = true → (verifyChain table 64 [] e).2 = .sound := by
  have none : fieldsPass table holdTicks (List.finRange 64) = none := by
    cases found : fieldsPass table holdTicks (List.finRange 64) with
    | none => rfl
    | some r =>
      rw [walk, found] at pass
      exact absurd pass (fieldsPass_not_pass found)
  have clean : ∀ e, EntryClean table holdTicks e := fun e => fieldsPass_eq_none_iff.1 none e (List.mem_finRange e)
  rw [walk_of_clean clean] at pass
  exact ⟨clean, fun e valid => verifyChain_sound_of_chainsPass pass e (mem_validEntries.2 valid)⟩

/-- The END entry of a segment whose chain is sound (R103). -/
theorem endLink_of_sound {table : PlanTable} {e : Fin 64} (valid : (table.get e).isSome = true)
    (sound : (verifyChain table 64 [] e).2 = .sound) : ∃ link, endLink table e = some link ∧ ∀ m, link ≠ .next m := by
  obtain ⟨x, q, last, held, ends⟩ := chainWalk_end_of_verifyChain_sound 64 [] valid (by simp) sound
  exact ⟨q.link, by simp [endLink, chainOf, last, held], ends⟩

/-- Settles O19: the FIELDS pass stops at the first entry that fails a check, and the CHAINS pass walks the chains of the
VALID entries in ascending order up to the first that is not sound. -/
theorem verdictIsTheFirstFaultInWalkOrder : Obligations.VerdictIsTheFirstFaultInWalkOrder := by
  intro table holdTicks
  refine ⟨fun e p c held fails first before => ?_, fun paths clean => ⟨fun sound => ?_, ?_⟩, fun pass e p held => ?_⟩
  · exact walk_of_fault held (Plan.firstFault_of_fails fails first) before
  · rw [walk_of_clean clean]
    exact chainsPass_of_sound sound 1280
  · intro e path x q m sound chain last held link
    have chain : ChainFrom table e path := chain
    have valid := chain.2.2.valid last (by simp [held]) (List.mem_of_head? chain.1)
    obtain ⟨rest, walked⟩ := chainsPass_at valid sound 1280
    rw [walk_of_clean clean, walked, chainsPass]
    refine ⟨fun empty => ?_, fun met => ?_⟩
    · rw [chain.verifyChain_linkEmpty last held link empty]
      rfl
    · rw [chain.verifyChain_cycle last held link met]
      rfl
  · obtain ⟨clean, sound⟩ := walk_pass pass
    have valid : (table.get e).isSome = true := by simp [held]
    have passes (c : FailCode) : ¬ p.Fails holdTicks c := clean e p c held
    exact ⟨Nat.not_lt.1 (passes .minFrame), Nat.not_le.1 (passes .phase), not_not.1 (passes .dupChannel),
      not_not.1 (passes .dupLane), Nat.not_lt.1 (passes .busyTime), endLink_of_sound valid (sound e valid)⟩

end Sys2Proof.Machine
end

section
/-! SUPPORT. Plan images: what each of their fields is read as, which images are malformed, and that the image of a plan in
range is read back whole (O15). -/

namespace Sys2Proof.Machine

-- The option has each proof elaborated where it stands: as one text the package has more proofs waiting at once than the
-- compile has threads (as in Tests/Slice0.lean), and these would add to them.
set_option deprecated.oldSectionVars true

/-! ### Codes (11.7) -/

theorem Reference.decode_eq_some_iff {k : Nat} {r : Reference} : Reference.decode k = some r ↔ r.code = k := by
  refine ⟨fun h => ?_, fun h => h ▸ by cases r <;> rfl⟩
  unfold Reference.decode at h
  split at h <;> cases h <;> rfl

theorem Reference.decode_eq_none_iff {k : Nat} (h : k < 4) : Reference.decode k = none ↔ k = 3 := by
  interval_cases k <;> simp [Reference.decode]

/-- The code of a lane; PRIVATE has one of its own (R181). -/
def laneCode : Option (Fin 8) → Nat
  | some l => l.val
  | none => 15

theorem decodeLane_eq_none_iff {n : Nat} : decodeLane n = none ↔ 8 ≤ n ∧ n ≠ 15 := by
  unfold decodeLane
  split
  · simp; omega
  · split <;> simp <;> omega

theorem decodeLane_eq_some_iff {n : Nat} {lane : Option (Fin 8)} : decodeLane n = some lane ↔ laneCode lane = n := by
  constructor
  · intro h
    unfold decodeLane at h
    split at h
    · next small => cases h; exact Nat.mod_eq_of_lt small
    · split at h
      · next unarbitrated => cases h; exact unarbitrated.symm
      · cases h
  · rintro rfl
    cases lane with
    | none => rfl
    | some l => exact (if_pos l.isLt).trans (by simp [laneCode])

/-! ### The link (R102) -/

/-- A link, end action and loop count that make none of the pairs that R102 allows. -/
def LinkMalformed (link action loops : Nat) : Prop :=
  (64 ≤ link ∧ link ≤ 254) ∨ 3 < action ∨ (link < 64 ∧ (action ≠ 0 ∨ loops ≠ 0)) ∨
    (link = 255 ∧ (action = 0 ∨ ((action = 2 ∨ action = 3) ∧ loops ≠ 0)))

theorem Link.decode_end (action loops : Nat) :
    Link.decode 255 action loops =
      match action with
      | 1 => some (.repeats loops)
      | 2 => if loops = 0 then some .park else none
      | 3 => if loops = 0 then some .depart else none
      | _ => none := rfl

theorem Link.decode_entry {link : Nat} (h : link < 64) (action loops : Nat) :
    Link.decode link action loops = if action = 0 ∧ loops = 0 then some (.next (Fin.ofNat 64 link)) else none := if_pos h

theorem Link.decode_other {link : Nat} (entry : ¬ link < 64) (ends : link ≠ 255) (action loops : Nat) :
    Link.decode link action loops = none := (if_neg entry).trans (if_neg ends)

theorem Link.decode_eq_none_iff {link action loops : Nat} (h : link < 256) :
    Link.decode link action loops = none ↔ LinkMalformed link action loops := by
  unfold LinkMalformed
  by_cases entry : link < 64
  · rw [Link.decode_entry entry, ite_eq_right_iff]
    simp only [reduceCtorEq, imp_false]
    omega
  by_cases ends : link = 255
  · subst ends
    rw [Link.decode_end]
    split
    · simp
    · split <;> simp [*]
    · split <;> simp [*]
    · next notRepeats notPark notDepart =>
      have notRepeats : action ≠ 1 := notRepeats
      have notPark : action ≠ 2 := notPark
      have notDepart : action ≠ 3 := notDepart
      exact iff_of_true rfl (by omega)
  · exact iff_of_true (Link.decode_other entry ends action loops) (.inl (by omega))

/-- The link that the three bytes spell. -/
theorem Link.decode_spells {link action loops : Nat} {l : Link} (h : Link.decode link action loops = some l) :
    (∀ e : Fin 64, link = e.val → l = .next e) ∧ (action = 1 → l = .repeats loops) ∧ (action = 2 → l = .park) ∧
      (action = 3 → l = .depart) := by
  unfold Link.decode at h
  split at h
  · split at h
    · next first =>
      cases h
      refine ⟨fun e he => by simp [he], ?_, ?_, ?_⟩ <;> simp [first.1]
    · cases h
  · next beyond =>
    have noEntry (e : Fin 64) (he : link = e.val) : l = .next e := absurd (he ▸ e.isLt) beyond
    refine ⟨noEntry, ?_⟩
    split at h
    · split at h
      · cases h; simp
      · split at h <;> cases h; simp
      · split at h <;> cases h; simp
      · cases h
    · cases h

/-! ### Numbers of two and three bytes -/

theorem tripleAt_lt (l : List Byte) (i : Nat) : tripleAt l i < 16777216 := by
  have high := byteAt_lt l i
  have low := pairAt_lt l (i + 1)
  unfold tripleAt
  omega

theorem bytes2_value {k : Nat} (h : k < 65536) : (byte (k / 256)).toNat * 256 + (byte k).toNat = k := by
  simp only [toNat_byte]
  omega

theorem bytes3_value {k : Nat} (h : k ≤ 1048575) :
    (byte (k / 65536)).toNat * 65536 + ((byte (k / 256)).toNat * 256 + (byte k).toNat) = k := by
  simp only [toNat_byte]
  omega

theorem inRange_iff {lo hi n : Nat} : inRange lo hi n = true ↔ lo ≤ n ∧ n ≤ hi := decide_eq_true_iff

/-! ### A strobe record (R99) -/

/-- The times and the pulse count at a strobe slot lie outside their ranges. -/
def SlotOutside (img : List Byte) (at0 : Nat) : Prop :=
  1048575 < tripleAt img (at0 + 2) ∨ pairAt img (at0 + 5) = 0 ∨ pairAt img (at0 + 7) = 0 ∨
    (byteAt img (at0 + 9) < 1 ∨ 16 < byteAt img (at0 + 9))

/-- The decoder's check of the times and the pulse count. -/
def slotInside (img : List Byte) (at0 : Nat) : Bool :=
  Machine.inRange 0 Config.maxTime (tripleAt img (at0 + 2)) && Machine.inRange 1 65535 (pairAt img (at0 + 5)) &&
    Machine.inRange 1 65535 (pairAt img (at0 + 7)) && Machine.inRange 1 16 (byteAt img (at0 + 9))

/-- The record that a strobe slot spells, given its reference and its lane. -/
def StrobeRecord.spelled (img : List Byte) (at0 : Nat) (reference : Reference) (lane : Option (Fin 8)) : StrobeRecord :=
  { channel := Fin.ofNat 4 (byteAt img at0 / 64), lane, priority := Fin.ofNat 4 (byteAt img at0 / 4), reference
    delay := tripleAt img (at0 + 2), onTime := pairAt img (at0 + 5), offTime := pairAt img (at0 + 7)
    pulses := byteAt img (at0 + 9), cutPolicy := if bitAt img at0 1 then .truncate else .complete }

section
variable {img : List Byte} {at0 : Nat}

theorem slotInside_iff : slotInside img at0 = true ↔ ¬ SlotOutside img at0 := by
  have onTime := pairAt_lt img (at0 + 5)
  have offTime := pairAt_lt img (at0 + 7)
  simp only [slotInside, Bool.and_eq_true, inRange_iff, Config.maxTime, SlotOutside]
  omega

theorem StrobeRecord.decode_eq (img : List Byte) (at0 : Nat) :
    StrobeRecord.decode img at0 =
      (Reference.decode (byteAt img at0 / 16 % 4)).bind fun reference =>
        (decodeLane (byteAt img (at0 + 1))).bind fun lane =>
          if slotInside img at0 then some (StrobeRecord.spelled img at0 reference lane) else none := rfl

theorem StrobeRecord.decode_of_codes {reference : Reference} {lane : Option (Fin 8)}
    (hr : Reference.decode (byteAt img at0 / 16 % 4) = some reference)
    (hl : decodeLane (byteAt img (at0 + 1)) = some lane) :
    StrobeRecord.decode img at0 =
      if slotInside img at0 then some (StrobeRecord.spelled img at0 reference lane) else none := by
  rw [StrobeRecord.decode_eq, hr, Option.bind_some, hl, Option.bind_some]

/-- What makes a strobe slot malformed (R181). -/
theorem StrobeRecord.decode_eq_none_iff :
    StrobeRecord.decode img at0 = none ↔
      byteAt img at0 / 16 % 4 = 3 ∨ (8 ≤ byteAt img (at0 + 1) ∧ byteAt img (at0 + 1) ≠ 15) ∨ SlotOutside img at0 := by
  rw [← Reference.decode_eq_none_iff (Nat.mod_lt _ (by decide)), ← decodeLane_eq_none_iff]
  cases hr : Reference.decode (byteAt img at0 / 16 % 4) with
  | none => simp [StrobeRecord.decode_eq, hr]
  | some reference =>
    cases hl : decodeLane (byteAt img (at0 + 1)) with
    | none => simp [StrobeRecord.decode_eq, hr, hl]
    | some lane => simp [StrobeRecord.decode_of_codes hr hl, slotInside_iff]

/-- A record stands at a strobe slot where each of its fields does (11.7). -/
theorem StrobeRecord.decode_eq_some_iff {r : StrobeRecord} :
    StrobeRecord.decode img at0 = some r ↔
      r.reference.code = byteAt img at0 / 16 % 4 ∧ laneCode r.lane = byteAt img (at0 + 1) ∧ ¬ SlotOutside img at0 ∧
        StrobeRecord.spelled img at0 r.reference r.lane = r := by
  rw [← Reference.decode_eq_some_iff, ← decodeLane_eq_some_iff]
  constructor
  · intro h
    have formed := mt StrobeRecord.decode_eq_none_iff.2 (h ▸ Option.some_ne_none r)
    rw [← Reference.decode_eq_none_iff (Nat.mod_lt _ (by decide)), ← decodeLane_eq_none_iff] at formed
    rw [not_or, not_or] at formed
    obtain ⟨hr, hl, inside⟩ := formed
    obtain ⟨reference, hr⟩ := Option.ne_none_iff_exists'.1 hr
    obtain ⟨lane, hl⟩ := Option.ne_none_iff_exists'.1 hl
    rw [StrobeRecord.decode_of_codes hr hl, if_pos (slotInside_iff.2 inside)] at h
    obtain rfl := Option.some.inj h
    exact ⟨hr, hl, inside, rfl⟩
  · rintro ⟨hr, hl, inside, spelled⟩
    rw [StrobeRecord.decode_of_codes hr hl, if_pos (slotInside_iff.2 inside), spelled]

theorem StrobeRecord.spelled_eq_iff {r : StrobeRecord} :
    StrobeRecord.spelled img at0 r.reference r.lane = r ↔
      r.channel.val = byteAt img at0 / 64 ∧ r.priority.val = byteAt img at0 / 4 % 4 ∧
        r.delay = tripleAt img (at0 + 2) ∧ r.onTime = pairAt img (at0 + 5) ∧ r.offTime = pairAt img (at0 + 7) ∧
        r.pulses = byteAt img (at0 + 9) ∧ (r.cutPolicy = .truncate ↔ byteAt img at0 / 2 % 2 = 1) := by
  have small := byteAt_lt img at0
  have cut := bitAt_iff img at0 1
  obtain ⟨channel, lane, priority, reference, delay, onTime, offTime, pulses, cutPolicy⟩ := r
  have hc : Fin.ofNat 4 (byteAt img at0 / 64) = channel ↔ channel.val = byteAt img at0 / 64 := by
    rw [Fin.ext_iff, Fin.val_ofNat, Nat.mod_eq_of_lt (by omega), eq_comm]
  have hp : Fin.ofNat 4 (byteAt img at0 / 4) = priority ↔ priority.val = byteAt img at0 / 4 % 4 := by
    rw [Fin.ext_iff, Fin.val_ofNat, eq_comm]
  have hcut : (if bitAt img at0 1 then CutPolicy.truncate else .complete) = cutPolicy ↔
      (cutPolicy = .truncate ↔ byteAt img at0 / 2 % 2 = 1) := by
    rw [pow_one] at cut
    rw [← cut]
    cases cutPolicy <;> cases bitAt img at0 1 <;> simp
  simp only [StrobeRecord.spelled, StrobeRecord.mk.injEq, hc, hp, hcut, true_and, eq_comm (b := delay),
    eq_comm (b := onTime), eq_comm (b := offTime), eq_comm (b := pulses)]

end

theorem Reference.code_lt (r : Reference) : r.code < 3 := by cases r <;> decide

theorem CutPolicy.code_eq_iff (c : CutPolicy) : c = .truncate ↔ c.code = 1 := by cases c <;> decide

theorem CutPolicy.code_lt (c : CutPolicy) : c.code < 2 := by cases c <;> decide

theorem laneCode_lt (lane : Option (Fin 8)) : laneCode lane < 16 := by
  cases lane with
  | none => decide
  | some l => exact l.isLt.trans (by decide)

/-- The twelve bytes of a record. -/
def StrobeRecord.bytes (r : StrobeRecord) : List Byte :=
  [byte (r.channel.val * 64 + r.reference.code * 16 + r.priority.val * 4 + r.cutPolicy.code * 2), byte (laneCode r.lane),
    byte (r.delay / 65536), byte (r.delay / 256), byte r.delay, byte (r.onTime / 256), byte r.onTime,
    byte (r.offTime / 256), byte r.offTime, byte r.pulses, 0, 0]

theorem encodeSlot_some (r : StrobeRecord) : encodeSlot (some r) = r.bytes := rfl

/-- The twelve bytes of a record in range are read back as that record. -/
theorem StrobeRecord.decode_encodeSlot {r : StrobeRecord} (h : r.inRange = true) :
    StrobeRecord.decode (encodeSlot (some r)) 0 = some r := by
  simp only [StrobeRecord.inRange, Bool.and_eq_true, inRange_iff, Config.maxTime] at h
  obtain ⟨⟨⟨⟨-, delayMax⟩, onTimeRange⟩, offTimeRange⟩, pulsesRange⟩ := h
  have reference := r.reference.code_lt
  have cutPolicy := r.cutPolicy.code_lt
  have first : byteAt r.bytes 0 =
      r.channel.val * 64 + r.reference.code * 16 + r.priority.val * 4 + r.cutPolicy.code * 2 :=
    toNat_byte_of_lt (by omega)
  have lane : byteAt r.bytes 1 = laneCode r.lane :=
    toNat_byte_of_lt ((laneCode_lt r.lane).trans (by decide))
  have delay : tripleAt r.bytes 2 = r.delay := bytes3_value delayMax
  have onTime : pairAt r.bytes 5 = r.onTime := bytes2_value (by omega)
  have offTime : pairAt r.bytes 7 = r.offTime := bytes2_value (by omega)
  have pulses : byteAt r.bytes 9 = r.pulses := toNat_byte_of_lt (by omega)
  rw [encodeSlot_some, StrobeRecord.decode_eq_some_iff, StrobeRecord.spelled_eq_iff, SlotOutside, r.cutPolicy.code_eq_iff]
  simp only [Nat.zero_add, first, lane, delay, onTime, offTime, pulses, true_and]
  refine ⟨?_, ?_, ?_, ?_, ?_⟩ <;> omega

/-! ### A strobe slot (R99) -/

/-- The presence mask names a strobe slot. -/
def SlotPresent (img : List Byte) (k : Nat) : Prop := byteAt img 18 / 2 ^ k % 2 = 1

theorem decodeSlot_present {img : List Byte} {k : Nat} (h : SlotPresent img k) :
    decodeSlot img k = (StrobeRecord.decode img (24 + 12 * k)).map some := if_pos ((bitAt_iff img 18 k).2 h)

theorem decodeSlot_absent {img : List Byte} {k : Nat} (h : ¬ SlotPresent img k) : decodeSlot img k = some none :=
  if_neg (mt (bitAt_iff img 18 k).1 h)

theorem decodeSlot_eq_none_iff {img : List Byte} {k : Nat} :
    decodeSlot img k = none ↔ SlotPresent img k ∧ StrobeRecord.decode img (24 + 12 * k) = none := by
  by_cases present : SlotPresent img k
  · simp [decodeSlot_present present, present]
  · simp [decodeSlot_absent present, present]

/-! ### The plan (R95 to R102) -/

/-- A field of the entry lies outside its range (section 6.2). -/
def FieldOutside (img : List Byte) : Prop :=
  (tripleAt img 1 < 1 ∨ 1048575 < tripleAt img 1) ∨ 1048575 < tripleAt img 4 ∨ (byteAt img 7 < 1 ∨ 4 < byteAt img 7) ∨
    pairAt img 8 = 0 ∨ 1048575 < tripleAt img 10 ∨ (byteAt img 13 < 1 ∨ 16 < byteAt img 13) ∨ 15 < byteAt img 14 ∨
    byteAt img 15 = 0

/-- The decoder's check of those fields. -/
def fieldsInside (img : List Byte) : Bool :=
  Machine.inRange 1 Config.maxTime (tripleAt img 1) && Machine.inRange 0 Config.maxTime (tripleAt img 4) &&
    Machine.inRange 1 4 (byteAt img 7) && Machine.inRange 1 65535 (pairAt img 8) &&
    Machine.inRange 0 Config.maxTime (tripleAt img 10) && Machine.inRange 1 16 (byteAt img 13) &&
    Machine.inRange 0 15 (byteAt img 14) && Machine.inRange 1 255 (byteAt img 15)

/-- The plan that the fields of an image spell, given its strobe slots and its link. -/
def Plan.spelled (img : List Byte) (slots : Vector (Option StrobeRecord) 4) (link : Link) : Plan :=
  { exposureTime := tripleAt img 1, exposureOffset := tripleAt img 4, burstCount := byteAt img 7
    burstGap := pairAt img 8, minFrameTime := tripleAt img 10, divisor := byteAt img 13, phase := byteAt img 14
    repeatCount := byteAt img 15, headMode := Fin.ofNat 4 (byteAt img 16 / 64), headCode := img.getD 17 0
    dark := bitAt img 16 0, slots, link }

section
variable {img : List Byte}

theorem fieldsInside_iff : fieldsInside img = true ↔ ¬ FieldOutside img := by
  have burstGap := pairAt_lt img 8
  have repeatCount := byteAt_lt img 15
  simp only [fieldsInside, Bool.and_eq_true, inRange_iff, Config.maxTime, FieldOutside]
  omega

theorem vector_of_gets {α : Type} (v : Vector α 4) : #v[v.get 0, v.get 1, v.get 2, v.get 3] = v := by
  refine Vector.ext fun i hi => ?_
  match i with
  | 0 | 1 | 2 | 3 => rfl

theorem Plan.decode_eq (img : List Byte) :
    Plan.decode img =
      (decodeSlot img 0).bind fun slot0 => (decodeSlot img 1).bind fun slot1 => (decodeSlot img 2).bind fun slot2 =>
        (decodeSlot img 3).bind fun slot3 =>
          (Link.decode (byteAt img 19) (byteAt img 20) (byteAt img 21)).bind fun link =>
            if fieldsInside img then some (Plan.spelled img #v[slot0, slot1, slot2, slot3] link) else none := rfl

theorem Plan.decode_of_slot {k : Fin 4} (h : decodeSlot img k.val = none) : Plan.decode img = none := by
  rw [Plan.decode_eq]
  fin_cases k <;> simp_all

theorem Plan.decode_of_slots {slots : Vector (Option StrobeRecord) 4}
    (h : ∀ k : Fin 4, decodeSlot img k.val = some (slots.get k)) :
    Plan.decode img =
      (Link.decode (byteAt img 19) (byteAt img 20) (byteAt img 21)).bind fun link =>
        if fieldsInside img then some (Plan.spelled img slots link) else none := by
  have slot0 : decodeSlot img 0 = some (slots.get 0) := h 0
  have slot1 : decodeSlot img 1 = some (slots.get 1) := h 1
  have slot2 : decodeSlot img 2 = some (slots.get 2) := h 2
  have slot3 : decodeSlot img 3 = some (slots.get 3) := h 3
  rw [Plan.decode_eq, slot0, Option.bind_some, slot1, Option.bind_some, slot2, Option.bind_some, slot3, Option.bind_some,
    vector_of_gets]

/-- What makes an image of marker 1 malformed (R102, R105, R181). -/
theorem Plan.decode_eq_none_iff :
    Plan.decode img = none ↔
      LinkMalformed (byteAt img 19) (byteAt img 20) (byteAt img 21) ∨
        (∃ k : Fin 4, SlotPresent img k.val ∧ StrobeRecord.decode img (24 + 12 * k.val) = none) ∨ FieldOutside img := by
  simp only [← Link.decode_eq_none_iff (byteAt_lt img 19), ← decodeSlot_eq_none_iff]
  by_cases slot : ∃ k : Fin 4, decodeSlot img k.val = none
  · obtain ⟨k, hk⟩ := slot
    exact iff_of_true (Plan.decode_of_slot hk) (.inr (.inl ⟨k, hk⟩))
  have formed : ∀ k : Fin 4, ∃ x, decodeSlot img k.val = some x := fun k =>
    Option.ne_none_iff_exists'.1 fun none => slot ⟨k, none⟩
  choose slots formed using formed
  have held (k : Fin 4) : decodeSlot img k.val = some ((Vector.ofFn slots).get k) := by rw [formed, vector_get_ofFn]
  rw [Plan.decode_of_slots held]
  cases Link.decode (byteAt img 19) (byteAt img 20) (byteAt img 21) with
  | none => simp
  | some link =>
    rw [Option.bind_some]
    by_cases outside : FieldOutside img
    · exact iff_of_true (if_neg fun inside => fieldsInside_iff.1 inside outside) (.inr (.inr outside))
    · rw [if_pos (fieldsInside_iff.2 outside)]
      simp [slot, outside]

/-- A plan stands in an image where each of its parts does (11.7). -/
theorem Plan.decode_eq_some_iff {p : Plan} :
    Plan.decode img = some p ↔
      (∀ k : Fin 4, decodeSlot img k.val = some (p.slots.get k)) ∧
        Link.decode (byteAt img 19) (byteAt img 20) (byteAt img 21) = some p.link ∧ ¬ FieldOutside img ∧
        Plan.spelled img p.slots p.link = p := by
  constructor
  · intro h
    have formed := mt Plan.decode_eq_none_iff.2 (h ▸ Option.some_ne_none p)
    simp only [← Link.decode_eq_none_iff (byteAt_lt img 19), ← decodeSlot_eq_none_iff, not_or, not_exists] at formed
    obtain ⟨link, slots, inside⟩ := formed
    obtain ⟨link, hl⟩ := Option.ne_none_iff_exists'.1 link
    choose slots hs using fun k => Option.ne_none_iff_exists'.1 (slots k)
    have held (k : Fin 4) : decodeSlot img k.val = some ((Vector.ofFn slots).get k) := by rw [hs, vector_get_ofFn]
    rw [Plan.decode_of_slots held, hl, Option.bind_some, if_pos (fieldsInside_iff.2 inside)] at h
    obtain rfl := Option.some.inj h
    exact ⟨held, hl, inside, rfl⟩
  · rintro ⟨hs, hl, inside, spelled⟩
    rw [Plan.decode_of_slots hs, hl, Option.bind_some, if_pos (fieldsInside_iff.2 inside), spelled]

theorem Plan.spelled_eq_iff {p : Plan} :
    Plan.spelled img p.slots p.link = p ↔
      p.exposureTime = tripleAt img 1 ∧ p.exposureOffset = tripleAt img 4 ∧ p.burstCount = byteAt img 7 ∧
        p.burstGap = pairAt img 8 ∧ p.minFrameTime = tripleAt img 10 ∧ p.divisor = byteAt img 13 ∧
        p.phase = byteAt img 14 ∧ p.repeatCount = byteAt img 15 ∧ p.headMode.val = byteAt img 16 / 64 ∧
        p.headCode.toNat = byteAt img 17 ∧ (p.dark = true ↔ byteAt img 16 % 2 = 1) := by
  have small := byteAt_lt img 16
  have darkBit := bitAt_iff img 16 0
  obtain ⟨exposureTime, exposureOffset, burstCount, burstGap, minFrameTime, divisor, phase, repeatCount, headMode,
    headCode, dark, slots, link⟩ := p
  have hm : Fin.ofNat 4 (byteAt img 16 / 64) = headMode ↔ headMode.val = byteAt img 16 / 64 := by
    rw [Fin.ext_iff, Fin.val_ofNat, Nat.mod_eq_of_lt (by omega), eq_comm]
  have hc : img.getD 17 0 = headCode ↔ headCode.toNat = byteAt img 17 := by
    rw [eq_comm]
    exact BitVec.toNat_inj.symm
  have hd : bitAt img 16 0 = dark ↔ (dark = true ↔ byteAt img 16 % 2 = 1) := by
    rw [pow_zero, Nat.div_one] at darkBit
    rw [← darkBit]
    cases dark <;> cases bitAt img 16 0 <;> simp
  simp only [Plan.spelled, Plan.mk.injEq, hm, hc, hd, and_true, eq_comm (b := exposureTime), eq_comm (b := exposureOffset),
    eq_comm (b := burstCount), eq_comm (b := burstGap), eq_comm (b := minFrameTime), eq_comm (b := divisor),
    eq_comm (b := phase), eq_comm (b := repeatCount)]

end

/-! ### The image of a plan (R110) -/

/-- The nineteen bytes of a plan's image ahead of its link. -/
def Plan.fieldBytes (p : Plan) : List Byte :=
  [1, byte (p.exposureTime / 65536), byte (p.exposureTime / 256), byte p.exposureTime,
    byte (p.exposureOffset / 65536), byte (p.exposureOffset / 256), byte p.exposureOffset, byte p.burstCount,
    byte (p.burstGap / 256), byte p.burstGap, byte (p.minFrameTime / 65536), byte (p.minFrameTime / 256),
    byte p.minFrameTime, byte p.divisor, byte p.phase, byte p.repeatCount,
    byte (p.headMode.val * 64 + flagBit 0 p.dark), p.headCode, byte p.mask]

/-- The bytes of a plan's strobe slots. -/
def Plan.slotBytes (p : Plan) : List Byte :=
  [p.slots.get 0, p.slots.get 1, p.slots.get 2, p.slots.get 3].flatMap encodeSlot

section
variable (p : Plan)

theorem Plan.encode_eq : p.encode = p.fieldBytes ++ (p.link.encode ++ ([0, 0] ++ p.slotBytes)) := by
  simp [Plan.encode, Plan.fieldBytes, Plan.slotBytes, bytes3, bytes2]

theorem Plan.byteAt_encode {j : Nat} (h : j < 19) : byteAt p.encode j = byteAt p.fieldBytes j := by
  rw [p.encode_eq, byteAt_append h]

theorem Plan.pairAt_encode {j : Nat} (h : j + 1 < 19) : pairAt p.encode j = pairAt p.fieldBytes j := by
  rw [pairAt, pairAt, p.byteAt_encode (Nat.lt_of_succ_lt h), p.byteAt_encode h]

theorem Plan.tripleAt_encode {j : Nat} (h : j + 1 + 1 < 19) : tripleAt p.encode j = tripleAt p.fieldBytes j := by
  rw [tripleAt, tripleAt, p.pairAt_encode h, p.byteAt_encode (by omega)]

theorem Plan.byteAt_encode_link {j : Nat} (h : j < 3) : byteAt p.encode (19 + j) = byteAt p.link.encode j := by
  rw [← byteAt_drop, p.encode_eq, List.drop_left' (by rfl), byteAt_append (by rw [Link.encode_length]; exact h)]

/-- Each strobe slot of a plan stands at its twelve bytes. -/
theorem Plan.encode_drop_slot (k : Fin 4) :
    ∃ rest, p.encode.drop (24 + 12 * k.val) = encodeSlot (p.slots.get k) ++ rest := by
  have slots : p.encode.drop 24 = p.slotBytes := by
    rw [p.encode_eq, ← List.append_assoc, ← List.append_assoc]
    exact List.drop_left' (by rw [List.length_append, List.length_append, Link.encode_length]; rfl)
  rw [← List.drop_drop, slots, Plan.slotBytes, drop_flatMap_of_length encodeSlot_length]
  fin_cases k <;> exact ⟨_, rfl⟩

/-- The presence mask of a plan's image names the slots that hold a record. -/
theorem Plan.slotPresent_encode (k : Fin 4) : SlotPresent p.encode k.val ↔ (p.slots.get k).isSome = true := by
  have masks : ∀ (a b c d : Bool),
      flagBit 0 a + flagBit 1 b + flagBit 2 c + flagBit 3 d < 256 ∧ ∀ k : Fin 4,
        ((flagBit 0 a + flagBit 1 b + flagBit 2 c + flagBit 3 d) / 2 ^ k.val % 2 = 1 ↔ [a, b, c, d].get k = true) := by
    decide
  obtain ⟨small, bits⟩ := masks (p.slots.get 0).isSome (p.slots.get 1).isSome (p.slots.get 2).isSome (p.slots.get 3).isSome
  have mask : byteAt p.encode 18 = p.mask := (p.byteAt_encode (by decide)).trans (toNat_byte_of_lt small)
  rw [SlotPresent, mask, Plan.mask, bits k]
  fin_cases k <;> rfl

end

theorem Link.decode_encode {link : Link} (h : link.inRange = true) :
    Link.decode (byteAt link.encode 0) (byteAt link.encode 1) (byteAt link.encode 2) = some link := by
  cases link with
  | next e =>
    have first : byteAt (Link.next e).encode 0 = e.val := toNat_byte_of_lt (by omega)
    rw [first, Link.decode_entry e.isLt]
    simp [byteAt, Link.encode]
  | repeats loops =>
    have loopByte : byteAt (Link.repeats loops).encode 2 = loops :=
      toNat_byte_of_lt (Nat.lt_succ_of_le (of_decide_eq_true h))
    rw [loopByte]
    rfl
  | park => rfl
  | depart => rfl

/-- A strobe slot is read from its first ten bytes. -/
theorem StrobeRecord.decode_congr {img part : List Byte} {at0 : Nat}
    (h : ∀ j < 10, img.getD (at0 + j) 0 = part.getD j 0) : StrobeRecord.decode img at0 = StrobeRecord.decode part 0 := by
  have first : img.getD at0 0 = part.getD 0 0 := h 0 (by decide)
  refine Option.ext fun r => ?_
  simp only [StrobeRecord.decode_eq_some_iff, StrobeRecord.spelled_eq_iff, SlotOutside, tripleAt, pairAt, byteAt,
    Nat.add_assoc, Nat.zero_add, Nat.reduceAdd, first, h 1 (by decide), h 2 (by decide), h 3 (by decide),
    h 4 (by decide), h 5 (by decide), h 6 (by decide), h 7 (by decide), h 8 (by decide), h 9 (by decide)]

section
variable {p : Plan} (h : p.inRange = true)
include h

theorem Plan.decodeSlot_encode (k : Fin 4) : decodeSlot p.encode k.val = some (p.slots.get k) := by
  have present := p.slotPresent_encode k
  cases slot : p.slots.get k with
  | none => exact decodeSlot_absent (by rw [present, slot]; decide)
  | some r =>
    have inRange : r.inRange = true := by
      simp only [Plan.inRange, Bool.and_eq_true, List.all_eq_true] at h
      exact h.1.2 r (Plan.mem_records.2 ⟨k, slot⟩)
    obtain ⟨rest, bytes⟩ := p.encode_drop_slot k
    have same : ∀ j < 10, p.encode.getD (24 + 12 * k.val + j) 0 = (encodeSlot (some r)).getD j 0 := by
      intro j hj
      rw [← List.getD_append _ rest 0 j (by rw [encodeSlot_length]; omega), ← slot, ← bytes]
      simp [List.getD_eq_getElem?_getD]
    rw [decodeSlot_present (by rw [present, slot]; rfl), StrobeRecord.decode_congr same,
      StrobeRecord.decode_encodeSlot inRange]
    rfl

/-- Every field of a plan in range stands in its image. -/
theorem Plan.spelled_encode : Plan.spelled p.encode p.slots p.link = p ∧ ¬ FieldOutside p.encode := by
  simp only [Plan.inRange, Bool.and_eq_true, inRange_iff, Config.maxTime] at h
  obtain ⟨⟨⟨⟨⟨⟨⟨⟨⟨exposureRange, offsetRange⟩, burstRange⟩, gapRange⟩, frameRange⟩, divisorRange⟩, phaseRange⟩,
    repeatRange⟩, -⟩, -⟩ := h
  have exposureTime : tripleAt p.encode 1 = p.exposureTime :=
    (p.tripleAt_encode (by decide)).trans (bytes3_value exposureRange.2)
  have exposureOffset : tripleAt p.encode 4 = p.exposureOffset :=
    (p.tripleAt_encode (by decide)).trans (bytes3_value offsetRange.2)
  have burstCount : byteAt p.encode 7 = p.burstCount := (p.byteAt_encode (by decide)).trans (toNat_byte_of_lt (by omega))
  have burstGap : pairAt p.encode 8 = p.burstGap := (p.pairAt_encode (by decide)).trans (bytes2_value (by omega))
  have minFrameTime : tripleAt p.encode 10 = p.minFrameTime :=
    (p.tripleAt_encode (by decide)).trans (bytes3_value frameRange.2)
  have divisor : byteAt p.encode 13 = p.divisor := (p.byteAt_encode (by decide)).trans (toNat_byte_of_lt (by omega))
  have phase : byteAt p.encode 14 = p.phase := (p.byteAt_encode (by decide)).trans (toNat_byte_of_lt (by omega))
  have repeatCount : byteAt p.encode 15 = p.repeatCount :=
    (p.byteAt_encode (by decide)).trans (toNat_byte_of_lt (by omega))
  have headCode : byteAt p.encode 17 = p.headCode.toNat := p.byteAt_encode (by decide)
  have flag : flagBit 0 p.dark = p.dark.toNat := by cases p.dark <;> rfl
  have flagSmall := p.dark.toNat_le
  have head : byteAt p.encode 16 = p.headMode.val * 64 + p.dark.toNat := by
    rw [← flag]
    exact (p.byteAt_encode (by decide)).trans (toNat_byte_of_lt (by omega))
  have dark : p.dark = true ↔ byteAt p.encode 16 % 2 = 1 := by
    rw [head, ← Bool.toNat_eq_one]
    omega
  refine ⟨Plan.spelled_eq_iff.2 ⟨exposureTime.symm, exposureOffset.symm, burstCount.symm, burstGap.symm,
    minFrameTime.symm, divisor.symm, phase.symm, repeatCount.symm, by omega, headCode.symm, dark⟩, ?_⟩
  unfold FieldOutside
  omega

/-- The image of a plan in range is read back whole. -/
theorem Plan.decodeEntry_encode : decodeEntry p.encode = some (some p) := by
  obtain ⟨spelled, inside⟩ := Plan.spelled_encode h
  have linkRange : p.link.inRange = true := (Bool.and_eq_true _ _ ▸ h).2
  have link : Link.decode (byteAt p.encode 19) (byteAt p.encode 20) (byteAt p.encode 21) = some p.link := by
    rw [p.byteAt_encode_link (j := 0) (by decide), p.byteAt_encode_link (j := 1) (by decide),
      p.byteAt_encode_link (j := 2) (by decide), Link.decode_encode linkRange]
  have decoded := Plan.decode_eq_some_iff.2 ⟨Plan.decodeSlot_encode h, link, inside, spelled⟩
  have marker : byteAt p.encode 0 = 1 := p.byteAt_encode (by decide)
  rw [decodeEntry, marker, decoded]
  rfl

end

/-! ### The entry that an image gives (R105, R181) -/

theorem decodeEntry_empty {img : List Byte} (h : byteAt img 0 = 0) : decodeEntry img = some none := if_pos h

theorem decodeEntry_unassigned {img : List Byte} (h : 2 ≤ byteAt img 0) : decodeEntry img = none :=
  (if_neg (by omega)).trans (if_neg (by omega))

theorem decodeEntry_valid {img : List Byte} (h : byteAt img 0 = 1) : decodeEntry img = (Plan.decode img).map some :=
  (if_neg (by omega)).trans (if_pos h)

/-- Settles O15: an image gives a plan exactly where each part of it gives its own. -/
theorem planImagesSpellTheirPlanOrAreMalformed : Obligations.PlanImagesSpellTheirPlanOrAreMalformed := by
  refine ⟨fun p h => ⟨p.encode_length, Plan.decodeEntry_encode h⟩, fun img => ⟨decodeEntry_empty, decodeEntry_unassigned,
    fun valid => ?_⟩⟩
  rw [decodeEntry_valid valid]
  refine ⟨?_, fun content h => ?_⟩
  · rw [Option.map_eq_none_iff, Plan.decode_eq_none_iff]
    simp only [StrobeRecord.decode_eq_none_iff, LinkMalformed, FieldOutside, SlotOutside, SlotPresent, and_or_left,
      exists_or, or_assoc, Nat.add_assoc]
  · obtain ⟨p, decoded, rfl⟩ := Option.map_eq_some_iff.1 h
    obtain ⟨slots, link, -, spelled⟩ := Plan.decode_eq_some_iff.1 decoded
    obtain ⟨exposureTime, exposureOffset, burstCount, burstGap, minFrameTime, divisor, phase, repeatCount, headMode,
      headCode, dark⟩ := Plan.spelled_eq_iff.1 spelled
    obtain ⟨next, repeats, park, depart⟩ := Link.decode_spells link
    refine ⟨p, rfl, exposureTime, exposureOffset, burstCount, burstGap, minFrameTime, divisor, phase, repeatCount,
      headMode, dark, headCode, next, repeats, park, depart, fun k => ⟨fun absent => ?_, fun present => ?_⟩⟩
    · exact Option.some.inj ((slots k).symm.trans (decodeSlot_absent absent))
    · obtain ⟨r, record, held⟩ := Option.map_eq_some_iff.1 ((decodeSlot_present present).symm.trans (slots k))
      obtain ⟨reference, lane, -, spelledRecord⟩ := StrobeRecord.decode_eq_some_iff.1 record
      obtain ⟨channel, priority, delay, onTime, offTime, pulses, cutPolicy⟩ := StrobeRecord.spelled_eq_iff.1 spelledRecord
      refine ⟨r, held.symm, channel, ?_, priority, cutPolicy, fun unarbitrated => ?_, fun l named => ?_, delay, onTime,
        offTime, pulses⟩
      · rw [← reference]
        cases r.reference <;> rfl
      · exact Option.some.inj ((decodeLane_eq_some_iff.2 lane).symm.trans (decodeLane_eq_some_iff.2 unarbitrated.symm))
      · exact Option.some.inj ((decodeLane_eq_some_iff.2 lane).symm.trans (decodeLane_eq_some_iff.2 named.symm))

end Sys2Proof.Machine
end

section
/-! SUPPORT. The live set as paths of links, and WRITE PLAN as taken and as refused (O14). -/

namespace Sys2Proof.Machine

-- The option has each proof elaborated where it stands: as one text the package has more proofs waiting at once than the
-- compile has threads (as in Tests/Slice0.lean), and these would add to them.
set_option deprecated.oldSectionVars true

/-! ### The walk along links (R103) -/

section
variable {table : PlanTable} {start : Fin 64} {p : Plan}

theorem chainWalk_next {met : List (Fin 64)} {m : Fin 64} (fresh : start ∉ met) (held : table.get start = some p)
    (link : p.link = .next m) (fuel : Nat) :
    chainWalk table (fuel + 1) met start = start :: chainWalk table fuel (start :: met) m := by
  simp [chainWalk, fresh, held, link]

theorem chainWalk_end {met : List (Fin 64)} (fresh : start ∉ met) (held : table.get start = some p)
    (ends : ∀ m, p.link ≠ .next m) (fuel : Nat) : chainWalk table (fuel + 1) met start = [start] := by
  cases link : p.link with
  | next m => exact absurd link (ends m)
  | _ => simp [chainWalk, fresh, held, link]

/-- A walk that meets an entry starts at a VALID entry that it had not met. -/
theorem chainWalk_start {met : List (Fin 64)} {fuel : Nat} {e : Fin 64} (mem : e ∈ chainWalk table (fuel + 1) met start) :
    start ∉ met ∧ ∃ p, table.get start = some p := by
  constructor
  · intro again
    simp [chainWalk, again] at mem
  · cases held : table.get start with
    | none => simp [chainWalk, held] at mem
    | some p => exact ⟨p, rfl⟩

end

/-- A path of VALID entries along links, from one entry to another. -/
def LivePath (table : PlanTable) (start e : Fin 64) (path : List (Fin 64)) : Prop :=
  ChainFrom table start path ∧ path.getLast? = some e ∧ ∀ x ∈ path, (table.get x).isSome = true

section
variable {table : PlanTable} {start e : Fin 64} {path : List (Fin 64)}

theorem livePath_singleton (valid : (table.get e).isSome = true) : LivePath table e e [e] :=
  ⟨⟨rfl, List.nodup_singleton e, linked_singleton table e⟩, rfl, by simpa using valid⟩

/-- A path goes on from a VALID entry not on it that links to its first entry. -/
theorem livePath_cons {m : Fin 64} {p : Plan} (held : table.get start = some p) (link : p.link = .next m)
    (fresh : start ∉ path) (live : LivePath table m e path) : LivePath table start e (start :: path) := by
  obtain ⟨⟨head, nodup, linked⟩, last, valid⟩ := live
  obtain ⟨rest, rfl⟩ : ∃ rest, path = m :: rest := List.head?_eq_some_iff.1 head
  exact ⟨⟨rfl, List.nodup_cons.2 ⟨fresh, nodup⟩, linked_cons_cons.2 ⟨⟨p, held, link⟩, linked⟩⟩, last,
    List.forall_mem_cons.2 ⟨by simp [held], valid⟩⟩

/-- What is left of a path after its first entry is a path from the next one. -/
theorem livePath_tail {a m : Fin 64} (live : LivePath table start e (a :: m :: path)) :
    (∃ p, table.get start = some p ∧ p.link = .next m) ∧ a ∉ m :: path ∧ LivePath table m e (m :: path) := by
  obtain ⟨⟨head, nodup, linked⟩, last, valid⟩ := live
  obtain rfl : a = start := Option.some.inj head
  obtain ⟨fresh, nodup⟩ := List.nodup_cons.1 nodup
  obtain ⟨first, linked⟩ := linked_cons_cons.1 linked
  exact ⟨first, fresh, ⟨rfl, nodup, linked⟩, last, fun x hx => valid x (List.mem_cons_of_mem a hx)⟩

/-- To every entry that a walk meets leads a path that avoids what it had met. -/
theorem exists_path_of_mem_chainWalk {fuel : Nat} {met : List (Fin 64)} (mem : e ∈ chainWalk table fuel met start) :
    ∃ path, LivePath table start e path ∧ ∀ x ∈ path, x ∉ met := by
  induction fuel generalizing met start with
  | zero => cases mem
  | succ fuel ih =>
    obtain ⟨fresh, p, held⟩ := chainWalk_start mem
    have single : e = start → ∃ path, LivePath table start e path ∧ ∀ x ∈ path, x ∉ met := by
      rintro rfl
      exact ⟨[e], livePath_singleton (by simp [held]), by simpa using fresh⟩
    by_cases next : ∃ m, p.link = .next m
    · obtain ⟨m, link⟩ := next
      rw [chainWalk_next fresh held link, List.mem_cons] at mem
      refine mem.elim single fun later => ?_
      obtain ⟨path, live, avoids⟩ := ih later
      exact ⟨start :: path, livePath_cons held link (fun again => avoids start again List.mem_cons_self) live,
        List.forall_mem_cons.2 ⟨fresh, fun x hx again => avoids x hx (List.mem_cons_of_mem start again)⟩⟩
    · rw [chainWalk_end fresh held (not_exists.1 next), List.mem_singleton] at mem
      exact single mem

theorem mem_chainWalk_of_path {fuel : Nat} {met : List (Fin 64)} (live : LivePath table start e path)
    (avoids : ∀ x ∈ path, x ∉ met) (length : path.length ≤ fuel) : e ∈ chainWalk table fuel met start := by
  induction path generalizing fuel met start with
  | nil => cases live.1.1
  | cons a rest ih =>
    obtain rfl : a = start := Option.some.inj live.1.1
    obtain ⟨fuel, rfl⟩ : ∃ n, fuel = n + 1 := ⟨fuel - 1, by simp at length; omega⟩
    have fresh := avoids a List.mem_cons_self
    cases rest with
    | nil =>
      obtain ⟨-, last, valid⟩ := live
      obtain rfl : a = e := by simpa using last
      obtain ⟨p, held⟩ := Option.isSome_iff_exists.1 (valid a List.mem_cons_self)
      by_cases next : ∃ m, p.link = .next m
      · obtain ⟨m, link⟩ := next
        rw [chainWalk_next fresh held link]
        exact List.mem_cons_self
      · rw [chainWalk_end fresh held (not_exists.1 next)]
        exact List.mem_cons_self
    | cons b rest =>
      obtain ⟨⟨p, held, link⟩, notLater, live⟩ := livePath_tail live
      rw [chainWalk_next fresh held link]
      refine List.mem_cons_of_mem a (ih live (fun x hx again => ?_) (by simpa using length))
      rcases List.mem_cons.1 again with rfl | again
      · exact notLater hx
      · exact avoids x (List.mem_cons_of_mem a hx) again

/-- The chain of a segment holds the entries to which a path leads from its start (R103). -/
theorem mem_chainOf_iff : e ∈ chainOf table start ↔ ∃ path, LivePath table start e path := by
  refine ⟨fun mem => ?_, fun ⟨path, live⟩ => ?_⟩
  · obtain ⟨path, live, -⟩ := exists_path_of_mem_chainWalk mem
    exact ⟨path, live⟩
  · exact mem_chainWalk_of_path live (by simp) (length_le_of_nodup live.1.2.1)

end

/-! ### The live set (R104) -/

theorem StationState.countsCursor_iff (state : StationState) :
    state.countsCursor = true ↔ state = .joining ∨ state = .flushing ∨ state = .active ∨ state = .leaving := by
  cases state <;> simp [StationState.countsCursor]

theorem State.mem_liveSources_iff {s : State} {start : Fin 64} :
    start ∈ s.liveSources ↔
      (s.membership.state.countsCursor = true ∧ s.cursor.segment = some start) ∨ s.membership.joinSegment = some start ∨
        s.epochs.staged = some start := by
  unfold State.liveSources
  split <;> simp [*]

theorem State.live_iff {s : State} {e : Fin 64} :
    s.live e = true ↔ ∃ start ∈ s.liveSources, ∃ path, LivePath s.table start e path := by
  simp only [State.live, List.any_eq_true, List.contains_iff_mem, mem_chainOf_iff]

/-! ### WRITE PLAN (R105 to R108, R119) -/

section
variable {s : State} {image : List Byte} {index : Byte} {e : Fin 64}

theorem exec_writePlan_whole (ht : s.ticking = true) (whole : 72 ≤ image.length) (index : Byte) :
    exec (.writePlan index image) s = .next (writePlanAction index image s) :=
  congrArg _ ((State.handOverImage_whole whole).trans (State.handOver_ticking ht))

theorem exec_writePlan_short (ht : s.ticking = true) (short : image.length < 72) (index : Byte) :
    exec (.writePlan index image) s = .next s.noReply := by
  have released : s.rstnLow = false := ((s.ticking_iff).1 ht).1
  exact congrArg _ ((if_pos short).trans (if_neg (by simp [released])))

theorem writePlanAction_unconfigured (h : s.membership.state = .unconfigured) :
    writePlanAction index image s = s.reply .state := if_pos h

section
variable (configured : s.membership.state ≠ .unconfigured)
include configured

theorem writePlanAction_above (h : 63 < index.toNat) : writePlanAction index image s = s.reply .range := by
  rw [writePlanAction, if_neg configured, entryIndex_above h]

theorem writePlanAction_live (live : s.live e = true) : writePlanAction (byte e.val) image s = s.reply .live := by
  rw [writePlanAction, if_neg configured, entryIndex_byte]
  exact if_pos live

theorem writePlanAction_malformed (free : s.live e = false) (malformed : decodeEntry (image.take 72) = none) :
    writePlanAction (byte e.val) image s = s.reply .range := by
  simp [writePlanAction, configured, entryIndex_byte, free, malformed]

theorem writePlanAction_taken (free : s.live e = false) {content : Option Plan}
    (formed : decodeEntry (image.take 72) = some content) :
    writePlanAction (byte e.val) image s = (writeEntry e content s).reply .accepted := by
  simp [writePlanAction, configured, entryIndex_byte, free, formed]

end

theorem writeEntry_idle (idle : ∀ since, s.verifier ≠ .running since) (content : Option Plan) :
    writeEntry e content s = { s with table := s.table.set e.val content e.isLt, verifier := .idle none } := by
  unfold writeEntry
  split
  · next since running => exact absurd running (idle since)
  · rfl
  · rfl
  · rfl

/-- A taken write ends a walk, with one record (R119). -/
theorem writeEntry_running {since : Nat} (running : s.verifier = .running since) (content : Option Plan) :
    writeEntry e content s =
      { s with
        table := s.table.set e.val content e.isLt
        verifier := .idle (some e)
        log := s.log.append
          { body := .verifyDone (.interrupted e), frame := s.barrier.frameNo, epoch := s.epochs.epoch }
        choices := s.choices + 1 } := by
  unfold writeEntry
  simp only [running, State.logChains_one]
  rfl

end

/-! ### Malformed images (R105, R181) -/

theorem byteAt_take {l : List Byte} {n i : Nat} (h : i < n) : byteAt (l.take n) i = byteAt l i := by
  simp [byteAt, List.getD_eq_getElem?_getD, h]

/-- What a link, an end action or a present strobe slot can hold to make an image malformed by itself (R181). -/
theorem Plan.decode_of_unassigned {img : List Byte}
    (h : (64 ≤ byteAt img 19 ∧ byteAt img 19 ≤ 254) ∨ 3 < byteAt img 20 ∨
      ∃ k : Fin 4, SlotPresent img k.val ∧
        (byteAt img (24 + 12 * k.val) / 16 % 4 = 3 ∨
          (8 ≤ byteAt img (25 + 12 * k.val) ∧ byteAt img (25 + 12 * k.val) ≠ 15))) :
    Plan.decode img = none := by
  rw [Plan.decode_eq_none_iff]
  rcases h with link | action | ⟨k, present, slot⟩
  · exact .inl (.inl link)
  · exact .inl (.inr (.inl action))
  · refine .inr (.inl ⟨k, present, StrobeRecord.decode_eq_none_iff.2 ?_⟩)
    rw [Nat.add_right_comm]
    exact slot.elim .inl fun lane => .inr (.inl lane)

/-- A marker, or in a VALID image a field, with a value that is not assigned makes the written image malformed (R181). -/
theorem decodeEntry_take_of_unassigned {image : List Byte}
    (h : 2 ≤ byteAt image 0 ∨
      (byteAt image 0 = 1 ∧
        ((64 ≤ byteAt image 19 ∧ byteAt image 19 ≤ 254) ∨ 3 < byteAt image 20 ∨
          ∃ k : Fin 4, byteAt image 18 / 2 ^ k.val % 2 = 1 ∧
            (byteAt image (24 + 12 * k.val) / 16 % 4 = 3 ∨
              (8 ≤ byteAt image (25 + 12 * k.val) ∧ byteAt image (25 + 12 * k.val) ≠ 15))))) :
    decodeEntry (image.take 72) = none := by
  have kept {i : Nat} (inside : i < 72) : byteAt (image.take 72) i = byteAt image i := byteAt_take inside
  rcases h with marker | ⟨marker, fields⟩
  · exact decodeEntry_unassigned (by rwa [kept (i := 0) (by decide)])
  · rw [decodeEntry_valid ((kept (by decide)).trans marker), Plan.decode_of_unassigned]
    · rfl
    · rw [kept (i := 19) (by decide), kept (i := 20) (by decide)]
      refine fields.imp_right (Or.imp_right ?_)
      rintro ⟨k, present, slot⟩
      refine ⟨k, ?_, ?_⟩
      · rw [SlotPresent, kept (by decide)]
        exact present
      · rw [kept (by omega), kept (by omega)]
        exact slot

/-- Settles O14: a taken write replaces the entry and ends a walk, and every refusal is a reply alone. -/
theorem writePlanReplacesTheEntryWholeOrChangesNothing : Obligations.WritePlanReplacesTheEntryWholeOrChangesNothing := by
  intro e image content s ht
  refine ⟨fun whole configured free formed => ⟨fun idle => ?_, fun since running => ⟨s.choices + 1, ?_⟩⟩, ?_,
    fun index short => exec_writePlan_short ht short index, fun index whole unconfigured => ?_,
    fun index whole configured above => ?_, fun whole configured => ⟨fun live => ?_, fun free malformed => ?_,
    fun empty => ?_, fun free unassigned => ?_⟩⟩
  · rw [exec_writePlan_whole ht whole, writePlanAction_taken configured free formed, writeEntry_idle idle]
  · rw [exec_writePlan_whole ht whole, writePlanAction_taken configured free formed, writeEntry_running running]
  · rw [State.live_iff]
    simp only [State.mem_liveSources_iff, StationState.countsCursor_iff]
    exact ⟨fun ⟨start, source, path, ⟨head, nodup, linked⟩, last, valid⟩ =>
        ⟨start, path, source, nodup, head, last, valid, linked⟩,
      fun ⟨start, path, source, nodup, head, last, valid, linked⟩ =>
        ⟨start, source, path, ⟨head, nodup, linked⟩, last, valid⟩⟩
  · rw [exec_writePlan_whole ht whole, writePlanAction_unconfigured unconfigured]
  · rw [exec_writePlan_whole ht whole, writePlanAction_above configured above]
  · rw [exec_writePlan_whole ht whole, writePlanAction_live configured live]
  · rw [exec_writePlan_whole ht whole, writePlanAction_malformed configured free malformed]
  · exact decodeEntry_empty ((byteAt_take (by decide)).trans empty)
  · rw [exec_writePlan_whole ht whole, writePlanAction_malformed configured free (decodeEntry_take_of_unassigned unassigned)]

end Sys2Proof.Machine
end

section
/-! SUPPORT. The busy time of a plan as the latest of its end points (O18), and VERIFY and the conclusion of its walk
(O17). -/

namespace Sys2Proof.Machine

-- The option has each proof elaborated where it stands: as one text the package has more proofs waiting at once than the
-- compile has threads (as in Tests/Slice0.lean), and these would add to them.
set_option deprecated.oldSectionVars true

/-! ### The busy time (R116) -/

/-- The latest end of a record's pulse train, from the mark (R116). -/
def Plan.trainEnd (p : Plan) (r : StrobeRecord) : Nat := p.referencePoint r.reference + r.delay + r.trainLength

theorem Plan.trainEnd_eq (p : Plan) (r : StrobeRecord) :
    p.trainEnd r = p.referencePoint r.reference + r.delay + r.pulses * r.onTime + (r.pulses - 1) * r.offTime :=
  (Nat.add_assoc _ _ _).symm

/-- The busy time is at most a bound exactly where every end point is. -/
theorem Plan.busyTime_le_iff {p : Plan} {bound : Nat} :
    p.busyTime ≤ bound ↔ p.exposuresEnd ≤ bound ∧ ∀ r ∈ p.records, p.trainEnd r ≤ bound := by
  rw [Plan.busyTime, foldl_max_le_iff, List.forall_mem_map]
  rfl

/-- The busy time is one of the end points. -/
theorem Plan.busyTime_attained (p : Plan) :
    p.busyTime = p.exposuresEnd ∨ ∃ r ∈ p.records, p.busyTime = p.trainEnd r := by
  have mem : p.busyTime ∈ p.exposuresEnd :: p.records.map p.trainEnd := List.max?_mem rfl
  rcases List.mem_cons.1 mem with exposures | train
  · exact .inl exposures
  · obtain ⟨r, present, ends⟩ := List.mem_map.1 train
    exact .inr ⟨r, present, ends.symm⟩

/-- Settles O18: the busy time is the least bound of the end points, and one of them. -/
theorem busyTimeIsTheLatestEndPoint : Obligations.BusyTimeIsTheLatestEndPoint := by
  intro p exposuresEnd point trainEnd
  have sameEnd (r : StrobeRecord) : trainEnd r = p.trainEnd r := (p.trainEnd_eq r).symm
  obtain ⟨exposures, trains⟩ := Plan.busyTime_le_iff.1 (le_refl p.busyTime)
  simp only [sameEnd]
  exact ⟨exposures, trains, p.busyTime_attained⟩

/-! ### VERIFY (R113) -/

section
variable {s : State} {since : Nat}

theorem exec_verify (ht : s.ticking = true) : exec .verify s = .next (verifyAction s) := State.command_next ht

theorem verifyAction_refused (outside : s.membership.state = .unconfigured ∨ s.membership.state = .detached) :
    verifyAction s = s.reply .state := if_pos outside

theorem verifyAction_busy (configured : s.membership.state ≠ .unconfigured) (attached : s.membership.state ≠ .detached)
    (running : s.verifier = .running since) : verifyAction s = s.reply .busy := by
  rw [verifyAction, if_neg (not_or.2 ⟨configured, attached⟩), running]

theorem verifyAction_starts (configured : s.membership.state ≠ .unconfigured)
    (attached : s.membership.state ≠ .detached) (idle : ∀ since, s.verifier ≠ .running since) :
    verifyAction s = { s with verifier := .running s.now }.reply .accepted := by
  rw [verifyAction, if_neg (not_or.2 ⟨configured, attached⟩)]
  cases status : s.verifier with
  | running since => exact absurd status (idle since)
  | idle | pass | fail => rfl

/-- A walk begins at step 0 of entry 0 in the FIELDS pass (R114). -/
theorem State.walkPosition_start (begun : s.verifier = .running s.now) : s.walkPosition = some (.fields 0 0) := by
  rw [State.walkPosition, begun]
  simp [Config.ticksPerEntry]

/-! ### The conclusion (R118) -/

theorem exec_verifyWalkConclusion (ht : s.ticking = true) :
    exec .verifyWalkConclusion s = .next (verifyWalkConclusionEffect s) := State.event_next ht

theorem verifyWalkConclusionEffect_running (running : s.verifier = .running since) :
    verifyWalkConclusionEffect s = concludeWalk since s := by
  rw [verifyWalkConclusionEffect, running]

/-- With no walk in progress nothing concludes (log entry 24). -/
theorem verifyWalkConclusionEffect_idle (idle : ∀ since, s.verifier ≠ .running since) :
    verifyWalkConclusionEffect s = s := by
  unfold verifyWalkConclusionEffect
  cases status : s.verifier with
  | running since => exact absurd status (idle since)
  | idle | pass | fail => rfl

end

/-- A conclusion moves the clock to its tick, and changes the verify status and the log alone (R118). -/
theorem concludeWalk_eq (since : Nat) (s : State) :
    ∃ settle lows highs sampled marked,
      concludeWalk since s =
        { s with
          now := max s.now (since + (walk s.table s.holdTicks).1)
          verifier := (walk s.table s.holdTicks).2.status
          log := s.log.append (s.record (.verifyDone (walk s.table s.holdTicks).2))
          choices := s.choices + 1
          timebase := { s.timebase with settle }
          barrier := { s.barrier with lows, highs, sampled, marked } } := by
  obtain ⟨settle, lows, highs, sampled, marked, passed⟩ :=
    s.advanceTo_closed (since + (walk s.table s.holdTicks).1)
  refine ⟨settle, lows, highs, sampled, marked, ?_⟩
  simp only [concludeWalk, State.logChains_one, passed]
  rfl

/-- Settles O17: VERIFY by the state and the status it meets, and the conclusion of the walk it begins. -/
theorem verifyWalksTheTableAndConcludes : Obligations.VerifyWalksTheTableAndConcludes := by
  intro s ht
  refine ⟨rfl, fun outside => ?_, fun configured attached => ⟨fun since running => ?_, fun idle => ⟨?_, ?_⟩⟩,
    fun since running => ?_, fun idle => ?_⟩
  · rw [exec_verify ht, verifyAction_refused outside]
  · rw [exec_verify ht, verifyAction_busy configured attached running]
  · rw [exec_verify ht, verifyAction_starts configured attached idle]
  · exact State.walkPosition_start rfl
  · obtain ⟨settle, lows, highs, sampled, marked, concluded⟩ := concludeWalk_eq since s
    refine ⟨concludeWalk since s, ?_, ?_⟩
    · rw [exec_verifyWalkConclusion ht, verifyWalkConclusionEffect_running running]
    · rw [concluded]
      rfl
  · rw [exec_verifyWalkConclusion ht, verifyWalkConclusionEffect_idle idle]

end Sys2Proof.Machine
end

section
/-! SUPPORT. The commands of the epoch unit: STAGE and UNSTAGE (O27), READY and UNREADY (O28). -/

namespace Sys2Proof.Machine

/-! ### The checks on the station state -/

theorem StationState.stages_eq_false_iff {state : StationState} :
    state.stages = false ↔ state = .unconfigured ∨ state = .leaving ∨ state = .detached := by
  cases state <;> decide

theorem StationState.outOfService_iff {state : StationState} :
    state.outOfService = true ↔ state = .unconfigured ∨ state = .detached := by
  cases state <;> decide

/-! ### STAGE (R130) -/

section
variable {s : State} {b : Byte}

theorem exec_stage (ht : s.ticking = true) (b : Byte) : exec (.stage b) s = .next (stageAction b s) :=
  State.command_next ht

/-- Something bars STAGE ahead of the checks on its start index: the station state, a pending leave, or the ready flag. -/
def State.StageBarred (s : State) : Prop :=
  s.membership.state.stages = false ∨ s.membership.pendingLeave.isSome = true ∨ s.epochs.ready.isSome = true

theorem State.stageBarred_iff :
    s.StageBarred ↔
      s.membership.state = .unconfigured ∨ s.membership.state = .leaving ∨ s.membership.state = .detached ∨
        s.membership.pendingLeave.isSome = true ∨ s.epochs.ready.isSome = true := by
  simp only [State.StageBarred, StationState.stages_eq_false_iff, or_assoc]

theorem State.not_stageBarred_iff :
    ¬ s.StageBarred ↔
      s.membership.state ≠ .unconfigured ∧ s.membership.state ≠ .leaving ∧ s.membership.state ≠ .detached ∧
        s.membership.pendingLeave = none ∧ s.epochs.ready = none := by
  simp only [State.stageBarred_iff, not_or, Option.not_isSome_iff_eq_none, ne_eq]

theorem stageAction_barred (barred : s.StageBarred) (b : Byte) : stageAction b s = s.reply .state := if_pos barred

/-- Past the bars the checks on the start index decide. -/
theorem stageAction_of_error {code : ResultCode} (free : ¬ s.StageBarred) (failed : s.startEntry b = .error code) :
    stageAction b s = s.reply code := (if_neg free).trans (by rw [failed])

theorem stageAction_of_ok {e : Fin 64} (free : ¬ s.StageBarred) (passed : s.startEntry b = .ok e) :
    stageAction b s = { s with epochs := { s.epochs with staged := some e } }.reply .accepted :=
  (if_neg free).trans (by rw [passed])

end

/-! ### UNSTAGE (R131) -/

section
variable {s : State}

theorem exec_unstage (ht : s.ticking = true) : exec .unstage s = .next (unstageAction s) := State.command_next ht

theorem unstageAction_refused
    (barred : s.membership.state = .unconfigured ∨ s.membership.state = .detached ∨ s.epochs.ready.isSome = true) :
    unstageAction s = s.reply .state :=
  if_pos ((or_assoc.2 barred).imp_left StationState.outOfService_iff.2)

theorem unstageAction_clears (configured : s.membership.state ≠ .unconfigured)
    (attached : s.membership.state ≠ .detached) (unready : s.epochs.ready = none) :
    unstageAction s = { s with epochs := { s.epochs with staged := none } }.reply .accepted :=
  if_neg (not_or.2 ⟨mt StationState.outOfService_iff.1 (not_or.2 ⟨configured, attached⟩),
    Option.not_isSome_iff_eq_none.2 unready⟩)

end

/-- Settles O27: the bars of STAGE come first and the checks on its start index after them; UNSTAGE has bars only. -/
theorem stageAndUnstageSetTheStagedSegment : Obligations.StageAndUnstageSetTheStagedSegment := by
  intro b e s ht
  simp only [exec_stage ht, exec_unstage ht, ← State.stageBarred_iff, ← State.not_stageBarred_iff]
  refine ⟨fun barred => congrArg _ (stageAction_barred barred b),
    fun free => ⟨fun above => congrArg _ ?range, fun unverified => congrArg _ ?unverified,
      fun pass empty => congrArg _ ?empty, fun pass valid => congrArg _ ?staged⟩,
    fun barred => congrArg _ (unstageAction_refused barred),
    fun ⟨configured, attached, unready⟩ => congrArg _ (unstageAction_clears configured attached unready)⟩
  case range => exact stageAction_of_error free (State.startEntry_range above)
  case unverified => exact stageAction_of_error free (State.startEntry_unverified e unverified)
  case empty => exact stageAction_of_error free (State.startEntry_empty pass empty)
  case staged => exact stageAction_of_ok free (State.startEntry_ok pass valid)

/-! ### READY (R132) -/

section
variable {s : State} {mode : ReadyMode}

theorem exec_readyKeep (ht : s.ticking = true) : exec .readyKeep s = .next (readyAction .keep s) :=
  State.command_next ht

theorem exec_readySwitch (ht : s.ticking = true) : exec .readySwitch s = .next (readyAction .switch s) :=
  State.command_next ht

theorem State.mayReady_iff :
    s.mayReady mode = true ↔
      s.membership.state = .active ∧ s.membership.pendingLeave = none ∧
        (s.epochs.ready = none ∨ s.epochs.ready = some mode) ∧ (mode = .keep ∨ s.epochs.staged.isSome = true) := by
  simp only [State.mayReady, Bool.and_eq_true, Bool.or_eq_true, beq_iff_eq, Option.isNone_iff_eq_none, and_assoc]

theorem readyAction_sets (may : s.mayReady mode = true) :
    readyAction mode s = { s with epochs := { s.epochs with ready := some mode } }.reply .accepted := if_pos may

theorem readyAction_refused (barred : s.mayReady mode ≠ true) : readyAction mode s = s.reply .state := if_neg barred

theorem State.not_mayReady_of_state (inactive : s.membership.state ≠ .active) : s.mayReady mode ≠ true :=
  fun may => inactive (State.mayReady_iff.1 may).1

theorem State.not_mayReady_of_leave (leaving : s.membership.pendingLeave.isSome = true) : s.mayReady mode ≠ true := by
  intro may
  obtain ⟨-, noLeave, -⟩ := State.mayReady_iff.1 may
  exact Option.isSome_iff_ne_none.1 leaving noLeave

/-- The flag held in the other mode bars READY. -/
theorem State.not_mayReady_of_other {held : ReadyMode} (set : s.epochs.ready = some held) (differs : held ≠ mode) :
    s.mayReady mode ≠ true := by
  intro may
  obtain ⟨-, -, free, -⟩ := State.mayReady_iff.1 may
  rw [set] at free
  rcases free with clear | same
  · exact Option.some_ne_none held clear
  · exact differs (Option.some.inj same)

theorem State.not_mayReady_switch_of_unstaged (unstaged : s.epochs.staged = none) : s.mayReady .switch ≠ true := by
  intro may
  obtain ⟨-, -, -, needed⟩ := State.mayReady_iff.1 may
  rw [unstaged] at needed
  rcases needed with keep | staged <;> contradiction

end

/-! ### UNREADY (R133) -/

section
variable {s : State}

theorem exec_unready (ht : s.ticking = true) : exec .unready s = .next (unreadyAction s) := State.command_next ht

/-- The note that carries READY is the own note of the open window, once its start is past (log entry 11). -/
theorem State.readyOut_iff :
    s.readyOut = true ↔
      s.transceiver.windowOpen = true ∧ s.transceiver.ownPassed = true ∧
        ∃ n, s.transceiver.image = some n ∧ n.ready = true := by
  have carries : (s.transceiver.image.map Note.ready).getD false = true ↔
      ∃ n, s.transceiver.image = some n ∧ n.ready = true := by
    cases s.transceiver.image <;> simp
  simp only [State.readyOut, Bool.and_eq_true, and_assoc, carries]

theorem unreadyAction_refused
    (barred : s.membership.state = .unconfigured ∨ s.membership.state = .detached ∨ s.epochs.turn ≠ .idle) :
    unreadyAction s = s.reply .state :=
  if_pos ((or_assoc.2 barred).imp_left StationState.outOfService_iff.2)

/-- In service with no turn in hand, UNREADY goes by the flag and by whether the note has carried it. -/
theorem unreadyAction_taken (configured : s.membership.state ≠ .unconfigured)
    (attached : s.membership.state ≠ .detached) (idle : s.epochs.turn = .idle) :
    unreadyAction s =
      if s.epochs.ready.isNone then s.reply .accepted
      else if s.readyOut then { s with epochs := { s.epochs with deferred := true } }.reply .accepted
      else { s with epochs := { s.epochs with ready := none, deferred := false } }.reply .accepted :=
  if_neg (not_or.2 ⟨mt StationState.outOfService_iff.1 (not_or.2 ⟨configured, attached⟩), not_not_intro idle⟩)

end

/-- Settles O28: READY by its conditions, and UNREADY by the flag and the note that carried it. -/
theorem readyAndUnreadySetAndWithdrawTheReadyFlag : Obligations.ReadyAndUnreadySetAndWithdrawTheReadyFlag := by
  refine ⟨fun s ht => ?ready, fun s ht => ?unready⟩
  case ready =>
    rw [exec_readyKeep ht, exec_readySwitch ht]
    refine ⟨fun ⟨active, noLeave, free⟩ => congrArg _ (readyAction_sets ?_),
      fun barred => congrArg _ (readyAction_refused ?_),
      fun ⟨active, noLeave, staged, free⟩ => congrArg _ (readyAction_sets ?_),
      fun barred => congrArg _ (readyAction_refused ?_)⟩
    · exact State.mayReady_iff.2 ⟨active, noLeave, free, .inl rfl⟩
    · rcases barred with inactive | leave | switch
      · exact State.not_mayReady_of_state inactive
      · exact State.not_mayReady_of_leave leave
      · exact State.not_mayReady_of_other switch nofun
    · exact State.mayReady_iff.2 ⟨active, noLeave, free, .inr staged⟩
    · rcases barred with inactive | leave | keep | unstaged
      · exact State.not_mayReady_of_state inactive
      · exact State.not_mayReady_of_leave leave
      · exact State.not_mayReady_of_other keep nofun
      · exact State.not_mayReady_switch_of_unstaged unstaged
  case unready =>
    rw [exec_unready ht]
    refine ⟨State.readyOut_iff, fun barred => congrArg _ (unreadyAction_refused barred),
      fun ⟨configured, attached, idle⟩ => ?_⟩
    rw [unreadyAction_taken configured attached idle]
    have held (set : s.epochs.ready.isSome = true) : ¬ s.epochs.ready.isNone = true :=
      Option.isSome_iff_ne_none.1 set ∘ Option.isNone_iff_eq_none.1
    refine ⟨fun clear => congrArg _ ?unchanged, fun set silent => congrArg _ ?clears,
      fun set carried => congrArg _ ?defers⟩
    case unchanged => exact if_pos (Option.isNone_iff_eq_none.2 clear)
    case clears => rw [if_neg (held set), if_neg (ne_true_of_eq_false silent)]
    case defers => rw [if_neg (held set), if_pos carried]

end Sys2Proof.Machine
end

section
/-! SUPPORT. The exposure sequencer's events (R144, R146 to R148, R151, R152): O52. -/

namespace Sys2Proof.Machine

/-! ### Generators that wait on a reference -/

theorem Generator.waitsOn_iff {refs : List Reference} {g : Generator} :
    g.waitsOn refs = true ↔ g.phase = .wait ∧ ∃ r, g.record = some r ∧ r.reference ∈ refs := by
  cases hr : g.record <;> simp [Generator.waitsOn, hr]

theorem Generator.takeReference_waiting {g : Generator} {r : StrobeRecord} (waits : g.phase = .wait)
    (holds : g.record = some r) (t : Nat) :
    g.takeReference t =
      if r.delay = 0 then { g with phase := .on, pulsesLeft := g.pulsesLeft - 1, phaseEnd := some (t + r.onTime) }
      else { g with phase := .delay, phaseEnd := some (t + r.delay) } := by
  rw [← Generator.enterOn_eq holds t]
  simp [Generator.takeReference, holds, waits]

/-- A generator that waits on the reference takes it (R151). -/
theorem State.handReference_get_waiting {s : State} {c : Fin 4} {r : StrobeRecord}
    (waits : (s.generators.get c).phase = .wait) (holds : (s.generators.get c).record = some r) (t : Nat) :
    (s.handReference r.reference t).generators.get c = (s.generators.get c).takeReference t :=
  (vector_get_map _ _ _).trans
    (if_pos (Generator.waitsOn_iff.2 ⟨waits, r, holds, List.mem_singleton_self _⟩))

/-- Any other generator stays as it is. -/
theorem State.handReference_get_other {s : State} {c : Fin 4} {ref : Reference}
    (other : (s.generators.get c).phase ≠ .wait ∨ ∀ r, (s.generators.get c).record = some r → r.reference ≠ ref)
    (t : Nat) : (s.handReference ref t).generators.get c = s.generators.get c := by
  refine (vector_get_map _ _ _).trans (if_neg fun waits => ?_)
  obtain ⟨phase, r, holds, mem⟩ := Generator.waitsOn_iff.1 waits
  rcases other with notWaiting | otherwise
  · exact notWaiting phase
  · exact otherwise r holds (List.mem_singleton.1 mem)

theorem State.dropReferences_get (refs : List Reference) (s : State) (c : Fin 4) :
    (s.dropReferences refs).generators.get c =
      if (s.generators.get c).waitsOn refs then (s.generators.get c).endUnrun else s.generators.get c :=
  vector_get_map _ _ _

/-! ### The events as state changes -/

/-- An event of the exposure sequencer at a tick: it sets the sequencer and the generators. -/
def State.sequenced (tick : Nat) (sequencer : Sequencer) (generators : Vector Generator 4) (s : State) : State :=
  { s.advanceTo tick with sequencer, generators }

theorem State.sequenced_now (tick : Nat) (q : Sequencer) (gens : Vector Generator 4) (s : State) :
    (s.sequenced tick q gens).now = max s.now tick := by
  show s.now + (tick - s.now) = max s.now tick
  omega

/-- The blocks that an exposure and its strobes leave as they are. -/
def State.BlocksStay (s t : State) : Prop :=
  t.membership = s.membership ∧ t.transceiver = s.transceiver ∧ t.roster = s.roster ∧ t.resolver = s.resolver ∧
    t.cursor = s.cursor ∧ t.epochs = s.epochs ∧ t.log = s.log ∧ t.table = s.table ∧ t.port = s.port ∧
    t.barrier.phase = s.barrier.phase ∧ t.barrier.pulled = s.barrier.pulled

theorem State.sequenced_blocksStay (tick : Nat) (q : Sequencer) (gens : Vector Generator 4) (s : State) :
    s.BlocksStay (s.sequenced tick q gens) :=
  ⟨rfl, rfl, rfl, rfl, rfl, rfl, rfl, rfl, rfl, Barrier.elapse_phase _ _ _, Barrier.elapse_pulled _ _ _⟩

/-- The report of the fourth release condition touches none of them. -/
theorem State.BlocksStay.reportStrobes {s t : State} (stay : s.BlocksStay t) : s.BlocksStay t.reportStrobes := stay

theorem State.sequenced_exposuresDone (tick : Nat) (q : Sequencer) (gens : Vector Generator 4) (s : State) :
    (s.sequenced tick q gens).barrier.exposuresDone = s.barrier.exposuresDone := Barrier.elapse_exposuresDone _ _ _

/-- The fourth release condition, once met, stays met; it is met when every generator is settled (R7). -/
theorem State.sequenced_strobesDone (tick : Nat) (q : Sequencer) (gens : Vector Generator 4) (s : State) :
    (s.sequenced tick q gens).reportStrobes.barrier.strobesDone = true ↔
      s.barrier.strobesDone = true ∨ ∀ c, (gens.get c).phase = .done ∨ (gens.get c).phase = .cut := by
  have kept : (s.sequenced tick q gens).barrier.strobesDone = s.barrier.strobesDone := Barrier.elapse_strobesDone _ _ _
  simp only [← Generator.settled_iff, ← allSettled_iff, State.reportStrobes, kept, Bool.or_eq_true]
  rfl

/-- The release waits while the exposure condition is not met (R8). -/
theorem State.finish_of_exposures_unmet {s : State} (unmet : s.barrier.exposuresDone = false) : s.finish [] = s := by
  refine State.finish_of_not_last (fun last => ?_) []
  obtain ⟨-, -, done, -⟩ := (Barrier.allMet_iff _).1 last.2
  exact absurd (unmet.symm.trans done) (by decide)

/-- The next exposure of an open frame with no skip recorded and none in progress (R146). -/
theorem State.nextExposure_of_free {s : State} (isOpen : s.barrier.phase = .holding ∨ s.barrier.pullDue = true)
    (unskipped : s.sequencer.skipAt = none) (resting : s.sequencer.xtrig = false) :
    s.nextExposure = s.sequencer.schedule[s.sequencer.started]? :=
  if_pos (by simpa [State.frameOpen, unskipped, resting] using isOpen)

/-- The references that a skip rules out for the frame: a later one has had its first exposure (R147, R148). -/
def Sequencer.skippedReferences (q : Sequencer) : List Reference :=
  if q.started = 0 then [.firstExpose, .lastExposeEnd] else [.lastExposeEnd]

theorem Sequencer.mem_skippedReferences {q : Sequencer} {ref : Reference} :
    ref ∈ q.skippedReferences ↔ ref = .lastExposeEnd ∨ ref = .firstExpose ∧ q.started = 0 := by
  unfold Sequencer.skippedReferences
  split
  case isTrue first => simp [first, or_comm]
  case isFalse later => simp [later]

section
variable {s : State} {start stop : Nat}

/-- HRDY high: the exposure is made (R146). -/
theorem exposureStartEffect_made (next : s.nextExposure = some (start, stop)) :
    exposureStartEffect true s =
      s.sequenced start
        { s.sequencer with started := s.sequencer.started + 1, made := s.sequencer.made + 1, xtrig := true }
        (if s.sequencer.started = 0 then (s.handReference .firstExpose start).generators else s.generators) := by
  simp only [exposureStartEffect, next, State.beginExposure, State.advanceTo_sequencer, beq_iff_eq, if_true]
  split
  case isTrue first => rfl
  case isFalse later => rfl

/-- HRDY low: the exposure is skipped with the rest of the burst (R147, R148). -/
theorem exposureStartEffect_skipped (next : s.nextExposure = some (start, stop))
    (unmet : s.barrier.exposuresDone = false) :
    exposureStartEffect false s =
      (s.sequenced start
        { s.sequencer with
          skipAt := some (s.sequencer.started + 1)
          burstSkipped := s.sequencer.burstSkipped || s.sequencer.started == 0 }
        (s.dropReferences s.sequencer.skippedReferences).generators).reportStrobes := by
  rw [← State.finish_of_exposures_unmet (s := State.reportStrobes _) ((State.sequenced_exposuresDone _ _ _ s).trans unmet)]
  simp only [exposureStartEffect, next, State.skipExposure, Sequencer.skippedReferences, beq_iff_eq]
  rfl

theorem exposureEndEffect_running (exposing : s.sequencer.xtrig = true)
    (running : s.sequencer.schedule[s.sequencer.started - 1]? = some (start, stop)) :
    exposureEndEffect s =
      s.sequenced stop { s.sequencer with xtrig := false }
        (if s.sequencer.started = s.sequencer.schedule.length then (s.handReference .lastExposeEnd stop).generators
        else s.generators) := by
  have runs : s.runningExposure = some (start, stop) := (if_pos exposing).trans running
  simp only [exposureEndEffect, runs, State.advanceTo_sequencer, beq_iff_eq]
  split
  case isTrue last => rfl
  case isFalse more => rfl

/-- The head code word takes eleven ticks (R144). -/
theorem hcodeWordSentEffect_word {w : HeadWord} (word : s.sequencer.headWord = some w) :
    hcodeWordSentEffect s = s.sequenced (w.start + 11) { s.sequencer with headWord := none } s.generators := by
  simp only [hcodeWordSentEffect, word]
  rfl

end

/-! ### What the generators become -/

/-- Every generator that waits on the reference has started at the tick, and every other one stays (R151). -/
def GeneratorsStarted (ref : Reference) (tick : Nat) (before after : Vector Generator 4) : Prop :=
  ∀ c,
    (∀ r, (before.get c).phase = .wait → (before.get c).record = some r → r.reference = ref →
      after.get c =
        (if r.delay = 0 then
          { before.get c with
            phase := .on, pulsesLeft := (before.get c).pulsesLeft - 1, phaseEnd := some (tick + r.onTime) }
        else { before.get c with phase := .delay, phaseEnd := some (tick + r.delay) })) ∧
    (((before.get c).phase ≠ .wait ∨ ∀ r, (before.get c).record = some r → r.reference ≠ ref) →
      after.get c = before.get c)

theorem State.handReference_started (ref : Reference) (tick : Nat) (s : State) :
    GeneratorsStarted ref tick s.generators (s.handReference ref tick).generators := by
  refine fun c => ⟨fun r waits holds same => ?_, fun other => State.handReference_get_other other tick⟩
  subst same
  rw [State.handReference_get_waiting waits holds, Generator.takeReference_waiting waits holds]

/-- After a skip the generators that wait on a reference ruled out are DONE with NOT_RUN, and the others stay (R152). -/
theorem State.dropReferences_skipped (s : State) (c : Fin 4) :
    let g := s.generators.get c
    let after := (s.dropReferences s.sequencer.skippedReferences).generators.get c
    let hit := g.phase = .wait ∧ ∃ r, g.record = some r ∧
      (r.reference = .lastExposeEnd ∨ (r.reference = .firstExpose ∧ s.sequencer.started = 0))
    (hit → after = { g with phase := .done, phaseEnd := none, outcome := some .notRun }) ∧ (¬ hit → after = g) := by
  intro g after hit
  have hit_iff : hit ↔ g.waitsOn s.sequencer.skippedReferences = true := by
    simp only [hit, Generator.waitsOn_iff, Sequencer.mem_skippedReferences]
  have after_eq := s.dropReferences_get s.sequencer.skippedReferences c
  exact ⟨fun h => after_eq.trans (if_pos (hit_iff.1 h)), fun h => after_eq.trans (if_neg (mt hit_iff.2 h))⟩

/-- Settles O52: each event sets the sequencer and the generators at its tick. -/
theorem exposuresFollowTheirSchedule : Obligations.ExposuresFollowTheirSchedule := by
  intro start stop w s ht
  refine ⟨fun isOpen unskipped resting scheduled => ⟨?made, fun unmet => ?skipped⟩, fun exposing running => ?ended,
    fun word => ?sent⟩
  case made =>
    have next := (State.nextExposure_of_free isOpen unskipped resting).trans scheduled
    refine ⟨_, (State.event_next ht).trans (congrArg _ (exposureStartEffect_made next)), State.sequenced_now _ _ _ s, rfl,
      fun first => ?_, fun later => if_neg later, State.sequenced_blocksStay _ _ _ s⟩
    rw [if_pos first]
    exact s.handReference_started .firstExpose start
  case skipped =>
    have next := (State.nextExposure_of_free isOpen unskipped resting).trans scheduled
    exact ⟨_, (State.event_next ht).trans (congrArg _ (exposureStartEffect_skipped next unmet)),
      (State.reportStrobes_now _).trans (State.sequenced_now _ _ _ s), rfl, s.dropReferences_skipped,
      State.sequenced_strobesDone _ _ _ s, (State.sequenced_blocksStay _ _ _ s).reportStrobes⟩
  case ended =>
    refine ⟨_, (State.event_next ht).trans (congrArg _ (exposureEndEffect_running exposing running)),
      State.sequenced_now _ _ _ s, rfl, fun last => ?_, fun more => if_neg more, State.sequenced_blocksStay _ _ _ s⟩
    rw [if_pos last]
    exact s.handReference_started .lastExposeEnd stop
  case sent =>
    exact ⟨_, (State.event_next ht).trans (congrArg _ (hcodeWordSentEffect_word word)), State.sequenced_now _ _ _ s, rfl,
      rfl, rfl, State.sequenced_blocksStay _ _ _ s⟩

end Sys2Proof.Machine
end

section
/-! SUPPORT. The station log: appends, READ LOG, a transaction cut short, and the 16 bytes of a record image (O56, O10, O12). -/

namespace Sys2Proof.Machine

/-! ### Appending a record (R163) -/

section
variable {l : StationLog}

/-- With room the record joins behind. -/
theorem StationLog.append_room (h : l.queue.length < 64) (r : Record) :
    l.append r = { l with queue := l.queue ++ [r] } := if_pos h

/-- A full log gives up its oldest record and counts it. -/
theorem StationLog.append_full (h : 64 ≤ l.queue.length) (r : Record) :
    l.append r = { queue := l.queue.tail ++ [r], gap := min 65535 (l.gap + 1) } := if_neg (Nat.not_lt.2 h)

theorem StationLog.append_length_le (h : l.queue.length ≤ 64) (r : Record) : (l.append r).queue.length ≤ 64 := by
  rcases h.lt_or_eq with room | full
  · rw [StationLog.append_room room, List.length_append]
    exact room
  · simp [StationLog.append_full full.ge, full]

end

/-- Settles O56: an append with room, and an append to a full log. -/
theorem appendsKeepTheNewestRecordsAndCountTheRest : Obligations.AppendsKeepTheNewestRecordsAndCountTheRest := by
  refine fun l r => ⟨fun room => ?room, fun oldest rest queue full => ?full,
    fun bounded => ⟨StationLog.append_length_le bounded r, StationLog.append_last l r⟩⟩
  case room =>
    rw [StationLog.append_room room]
    exact ⟨rfl, rfl⟩
  case full =>
    have kept : (rest ++ [r]).length = 64 := by rw [← full, queue, List.length_append, List.length_cons]; rfl
    rw [StationLog.append_full full.ge, queue]
    exact ⟨rfl, kept, fun below => Nat.min_eq_right below, fun saturated => by rw [saturated]; rfl⟩

/-! ### A transaction cut short (R167, R170) -/

section
variable {s : State}

theorem exec_transactionCutShort (cut : CutPoint) (s : State) :
    exec (.transactionCutShort cut) s = .next (transactionCutShortEffect cut s) := rfl

theorem transactionCutShortEffect_beforeTaken (h : s.rstnLow = false) :
    transactionCutShortEffect .beforeTaken s = s.noReply := by simp [transactionCutShortEffect, State.endEarly, h]

theorem transactionCutShortEffect_inResult (h : s.rstnLow = false) :
    transactionCutShortEffect .inResult s = s.loseResult := by simp [transactionCutShortEffect, h]

theorem transactionCutShortEffect_inData (h : s.rstnLow = false) (shifted : Nat) :
    transactionCutShortEffect (.inData shifted) s = s.loseData shifted := by simp [transactionCutShortEffect, h]

/-- Data bytes that were not shifted out are lost, and with them what a READ LOG took. -/
theorem State.loseData_part {shifted : Nat} (h : shifted < s.port.data.length) :
    s.loseData shifted =
      { s with
        log := s.log.loseTaken s.port.logTaken
        port := { s.port.rise with data := s.port.data.take shifted, logTaken := .nothing } } := if_pos h

/-- After the last data byte nothing is lost. -/
theorem State.loseData_whole {shifted : Nat} (h : s.port.data.length ≤ shifted) :
    s.loseData shifted = { s with port := { s.port.rise with logTaken := .nothing } } := if_neg (Nat.not_lt.2 h)

end

/-- What a READ LOG took counts as lost, one for a record and its count for a GAP. -/
theorem StationLog.loseTaken_eq (taken : LogTaken) (l : StationLog) :
    l.loseTaken taken =
      match taken with
      | .nothing => l
      | .record => { l with gap := min 65535 (l.gap + 1) }
      | .gap n => { l with gap := min 65535 (l.gap + n) } := by
  cases taken <;> rfl

/-- Settles O10, by the point at which CSN rises. -/
theorem cutTransactionsLoseTheirReply : Obligations.CutTransactionsLoseTheirReply := by
  intro s running lossless afterLoss risen
  have loss : s.log.loseTaken s.port.logTaken = afterLoss := StationLog.loseTaken_eq _ _
  refine ⟨rfl, ?beforeTaken, ?inResult, fun n part => ?part, fun n whole => ?whole, fun _ _ _ _ => rfl,
    fun nothing => ?lossless⟩
  case beforeTaken => rw [exec_transactionCutShort, transactionCutShortEffect_beforeTaken running]; rfl
  case inResult => rw [exec_transactionCutShort, transactionCutShortEffect_inResult running, ← loss]; rfl
  case part =>
    rw [exec_transactionCutShort, transactionCutShortEffect_inData running, State.loseData_part part, ← loss]
    rfl
  case whole =>
    rw [exec_transactionCutShort, transactionCutShortEffect_inData running, State.loseData_whole whole]
    rfl
  case lossless =>
    rw [← loss, nothing]
    rfl

/-! ### READ LOG (R166) -/

section
variable {s : State}

theorem exec_readLog (ht : s.ticking = true) : exec .readLog s = .next (readLogAction s) := State.command_next ht

/-- A gap count is delivered first, as a GAP record. -/
theorem readLogAction_gap (h : 0 < s.log.gap) :
    readLogAction s =
      { s with
        log := { s.log with gap := 0 }
        port := { (s.replyWith .accepted (gapImage s.barrier.frameNo s.epochs.epoch s.log.gap)).port with
          logTaken := .gap s.log.gap } } := if_pos h

/-- Then the oldest record. -/
theorem readLogAction_record {r : Record} {rest : List Record} (h : s.log.gap = 0) (queue : s.log.queue = r :: rest) :
    readLogAction s =
      { s with
        log := { s.log with queue := rest }
        port := { (s.replyWith .accepted r.encode).port with logTaken := .record } } := by
  simp only [readLogAction, h, queue, lt_irrefl, if_false]
  rfl

theorem readLogAction_empty (h : s.log.gap = 0) (queue : s.log.queue = []) : readLogAction s = s.reply .empty := by
  simp only [readLogAction, h, queue, lt_irrefl, if_false]

end

/-! ### Bytes and fields of an image (11.7) -/

theorem padTo_length (n : Nat) (l : List Byte) : (padTo n l).length = n := by simp [padTo]

/-- The bytes behind a list are the zeros it is filled up with. -/
theorem byteAt_padTo {n j : Nat} (h : j < n) (l : List Byte) : byteAt (padTo n l) j = byteAt l j := by
  rw [padTo, byteAt_take h]
  rcases Nat.lt_or_ge j l.length with inside | beyond
  · exact byteAt_append inside _
  · have zero : byteAt (List.replicate n 0) (j - l.length) = 0 := by
      simp [byteAt, List.getD_eq_getElem?_getD, Nat.lt_of_le_of_lt (Nat.sub_le j l.length) h]
    have absent : byteAt l j = 0 := by rw [byteAt, List.getD_eq_default _ _ beyond]; rfl
    rw [absent, ← zero, byteAt, List.getD_append_right _ _ _ _ beyond, byteAt]

theorem fieldAt_whole (image : List Byte) (i : Nat) : fieldAt image i 0 8 = byteAt image i := by
  rw [fieldAt, Nat.pow_zero, Nat.div_one]
  exact Nat.mod_eq_of_lt (byteAt_lt image i)

section
variable {image : List Byte} {i : Nat} {entry : Option (Fin 64)}

/-- An entry behind its present bit. -/
theorem fieldAt_presentEntry (h : byteAt image i = presentEntry entry) :
    (fieldAt image i 7 1 = 1 ↔ entry.isSome = true) ∧ ∀ e, entry = some e → fieldAt image i 0 6 = e.val := by
  rw [fieldAt, fieldAt, h]
  cases entry with
  | none => exact ⟨by decide, fun e present => nomatch present⟩
  | some e =>
    have value : presentEntry (some e) = 128 + e.val := rfl
    refine ⟨iff_of_true (by omega) rfl, fun e' present => ?_⟩
    cases present
    omega

end

theorem toNat_byte_presentEntry (entry : Option (Fin 64)) : (byte (presentEntry entry)).toNat = presentEntry entry := by
  refine toNat_byte_of_lt ?_
  cases entry with
  | none => decide
  | some e => exact (Nat.add_lt_add_left e.isLt 128).trans (by decide)

theorem FrameOutcome.code_lt (x : FrameOutcome) : x.code < 7 := by cases x <;> decide

theorem RecordBody.code_lt (x : RecordBody) : x.code < 256 := by cases x <;> simp [RecordBody.code]

theorem FailCode.code_lt (x : FailCode) : x.code < 256 := by cases x <;> decide

theorem channelCode_lt (x : Option ChannelOutcome) : channelCode x < 8 := by
  rcases x with _ | _ | _ | reason | _ | _
  case some.denied => cases reason <;> decide
  all_goals decide

/-! ### The bytes of a FRAME record (R161) -/

/-- The code of a denied lane: its present bit, the lane and the reason. -/
def deniedCode (d : Fin 8 × DenyReason) : Nat := 128 + d.1.val * 16 + d.2.code

/-- The fields of a denied lane. -/
theorem deniedCode_fields (lane : Fin 8) (reason : DenyReason) :
    deniedCode (lane, reason) < 256 ∧ deniedCode (lane, reason) / 2 ^ 7 % 2 ^ 1 = 1 ∧
      deniedCode (lane, reason) / 2 ^ 4 % 2 ^ 3 = lane.val ∧ deniedCode (lane, reason) / 2 ^ 0 % 2 ^ 2 = reason.code := by
  have reasonLt : reason.code < 4 := by cases reason <;> decide
  simp only [deniedCode]
  omega

section
variable (f : FrameReport)

theorem FrameReport.encode_marks :
    byteAt f.encode 0 =
      f.outcome.code * 32 + f.late.toNat * 16 + f.truncated.toNat * 8 + f.headBusy.toNat * 4 + f.shortBurst.toNat * 2 +
        f.turn.toNat := by
  have outcomeLt := f.outcome.code_lt
  have lateLe := f.late.toNat_le
  have truncatedLe := f.truncated.toNat_le
  have headBusyLe := f.headBusy.toNat_le
  have shortBurstLe := f.shortBurst.toNat_le
  have turnLe := f.turn.toNat_le
  change (byte (f.outcome.code * 32 + flagBit 4 f.late + flagBit 3 f.truncated + flagBit 2 f.headBusy +
    flagBit 1 f.shortBurst + flagBit 0 f.turn)).toNat = _
  simp only [flagBit_eq]
  rw [toNat_byte_of_lt (by omega)]
  omega

theorem FrameReport.encode_planIndex : byteAt f.encode 1 = presentEntry f.planIndex := toNat_byte_presentEntry _

/-- The exposures made and the four channel outcomes as one number. -/
def FrameReport.runCode (f : FrameReport) : Nat :=
  f.exposures * 4096 + channelCode (f.channels.get 0) * 512 + channelCode (f.channels.get 1) * 64 +
    channelCode (f.channels.get 2) * 8 + channelCode (f.channels.get 3)

theorem FrameReport.encode_runs :
    byteAt f.encode 2 = f.runCode / 256 % 256 ∧ byteAt f.encode 3 = f.runCode % 256 := ⟨toNat_byte _, toNat_byte _⟩

theorem FrameReport.runCode_channel (c : Fin 4) :
    (f.runCode / 256 % 256 * 256 + f.runCode % 256) / 2 ^ (9 - 3 * c.val) % 8 = channelCode (f.channels.get c) := by
  have lt0 := channelCode_lt (f.channels.get 0)
  have lt1 := channelCode_lt (f.channels.get 1)
  have lt2 := channelCode_lt (f.channels.get 2)
  have lt3 := channelCode_lt (f.channels.get 3)
  have low : f.runCode / 256 % 256 * 256 + f.runCode % 256 = f.runCode % 65536 := by omega
  rw [low, FrameReport.runCode]
  match c with
  | 0 => simp only [Fin.val_zero]; omega
  | 1 => simp only [Fin.val_one]; omega
  | 2 => simp only [Fin.val_two]; omega
  | 3 => rw [show (3 : Fin 4).val = 3 from rfl]; omega

theorem FrameReport.runCode_exposures (h : f.exposures ≤ 4) : f.runCode / 256 % 256 / 2 ^ 4 % 2 ^ 3 = f.exposures := by
  have lt0 := channelCode_lt (f.channels.get 0)
  have lt1 := channelCode_lt (f.channels.get 1)
  have lt2 := channelCode_lt (f.channels.get 2)
  have lt3 := channelCode_lt (f.channels.get 3)
  unfold FrameReport.runCode
  omega

theorem FrameReport.encode_granted : f.encode.getD 4 0 = f.granted := by
  change BitVec.ofNat 8 f.granted.toNat = _
  rw [BitVec.ofNat_toNat, BitVec.setWidth_eq]

theorem FrameReport.encode_denied {k : Nat} (h : k < 4) :
    byteAt f.encode (5 + k) = byteAt (f.denied.map fun d => byte (deniedCode d)) k := by
  rw [← byteAt_drop]
  change byteAt (padTo 4 _) k = _
  exact byteAt_padTo h _

theorem FrameReport.encode_denied_some {k : Nat} (h : k < 4) {lane : Fin 8} {reason : DenyReason}
    (held : f.denied[k]? = some (lane, reason)) : byteAt f.encode (5 + k) = deniedCode (lane, reason) := by
  rw [f.encode_denied h, byteAt, List.getD_eq_getElem?_getD, List.getElem?_map, held]
  exact toNat_byte_of_lt (deniedCode_fields lane reason).1

theorem FrameReport.encode_denied_none {k : Nat} (h : k < 4) (absent : f.denied[k]? = none) :
    byteAt f.encode (5 + k) = 0 := by
  rw [f.encode_denied h, byteAt, List.getD_eq_getElem?_getD, List.getElem?_map, absent]
  rfl

end

/-! ### The record images -/

/-- The GAP image. -/
theorem gapImage_eq (frame : FrameNo) (epoch : EpochNo) (count : Nat) :
    gapImage frame epoch count =
      0x3F#8 :: bytes4 frame.toNat ++ bytes2 epoch.toNat ++ bytes2 count ++ List.replicate 7 0 := rfl

theorem recordImage_length (kind : Nat) (frame : FrameNo) (epoch : EpochNo) (fields : List Byte) :
    (recordImage kind frame epoch fields).length = 16 := by
  simp [recordImage, bytes4, bytes3, bytes2, padTo_length]

section
variable (r : Record)

theorem Record.encode_kind : byteAt r.encode 0 = r.body.code := toNat_byte_of_lt r.body.code_lt

theorem Record.encode_frame : (r.encode.drop 1).take 4 = bytes4 r.frame.toNat := rfl

theorem Record.encode_epoch : (r.encode.drop 5).take 2 = bytes2 r.epoch.toNat := rfl

theorem Record.encode_fields : r.encode.drop 7 = padTo 9 r.body.fields := rfl

/-- The kind-specific bytes stand from byte 7 on. -/
theorem Record.encode_field {j : Nat} (h : j < 9) : byteAt r.encode (7 + j) = byteAt r.body.fields j := by
  rw [← byteAt_drop, r.encode_fields, byteAt_padTo h]

end

/-! ### The kind-specific bytes, kind by kind (R161, R162) -/

section
variable {r : Record} {f : FrameReport}

theorem Record.report_byte (h : r.body = .frame f) {j : Nat} (hj : j < 9) :
    byteAt r.encode (7 + j) = byteAt f.encode j := by
  rw [r.encode_field hj, h]
  rfl

/-- The frame outcome and the flags (byte 7). -/
theorem Record.report_marks (h : r.body = .frame f) :
    fieldAt r.encode 7 5 3 = f.outcome.code ∧ (fieldAt r.encode 7 4 1 = 1 ↔ f.late = true) ∧
      (fieldAt r.encode 7 3 1 = 1 ↔ f.truncated = true) ∧ (fieldAt r.encode 7 2 1 = 1 ↔ f.headBusy = true) ∧
      (fieldAt r.encode 7 1 1 = 1 ↔ f.shortBurst = true) ∧ (fieldAt r.encode 7 0 1 = 1 ↔ f.turn = true) := by
  have marks : byteAt r.encode 7 = _ := (Record.report_byte h (j := 0) (by decide)).trans f.encode_marks
  have outcomeLt := f.outcome.code_lt
  have lateLe := f.late.toNat_le
  have truncatedLe := f.truncated.toNat_le
  have headBusyLe := f.headBusy.toNat_le
  have shortBurstLe := f.shortBurst.toNat_le
  have turnLe := f.turn.toNat_le
  simp only [fieldAt, marks, ← Bool.toNat_eq_one]
  omega

/-- The plan index behind its present bit (byte 8). -/
theorem Record.report_planIndex (h : r.body = .frame f) :
    (fieldAt r.encode 8 7 1 = 1 ↔ f.planIndex.isSome = true) ∧
      ∀ e, f.planIndex = some e → fieldAt r.encode 8 0 6 = e.val :=
  fieldAt_presentEntry ((Record.report_byte h (j := 1) (by decide)).trans f.encode_planIndex)

/-- The exposures made and the channel outcomes (bytes 9 and 10). -/
theorem Record.report_runs (h : r.body = .frame f) :
    byteAt r.encode 9 = f.runCode / 256 % 256 ∧ byteAt r.encode 10 = f.runCode % 256 :=
  ⟨(Record.report_byte h (j := 2) (by decide)).trans f.encode_runs.1,
    (Record.report_byte h (j := 3) (by decide)).trans f.encode_runs.2⟩

theorem Record.report_exposures (h : r.body = .frame f) (few : f.exposures ≤ 4) :
    fieldAt r.encode 9 4 3 = f.exposures := by
  rw [fieldAt, (Record.report_runs h).1, f.runCode_exposures few]

theorem Record.report_channel (h : r.body = .frame f) (c : Fin 4) :
    (fieldAt r.encode 9 0 8 * 256 + fieldAt r.encode 10 0 8) / 2 ^ (9 - 3 * c.val) % 8 =
      channelCode (f.channels.get c) := by
  obtain ⟨high, low⟩ := Record.report_runs h
  rw [fieldAt_whole, fieldAt_whole, high, low, f.runCode_channel c]

/-- The granted lanes (byte 11). -/
theorem Record.report_granted (h : r.body = .frame f) : r.encode.getD 11 0 = f.granted := by
  have value := (Record.report_byte h (j := 4) (by decide)).trans (congrArg BitVec.toNat f.encode_granted)
  exact BitVec.eq_of_toNat_eq value

/-- A denied lane with its reason (bytes 12 to 15). -/
theorem Record.report_denied (h : r.body = .frame f) {k : Nat} (hk : k < 4) {lane : Fin 8} {reason : DenyReason}
    (held : f.denied[k]? = some (lane, reason)) :
    fieldAt r.encode (12 + k) 7 1 = 1 ∧ fieldAt r.encode (12 + k) 4 3 = lane.val ∧
      fieldAt r.encode (12 + k) 0 2 = reason.code := by
  have place : 12 + k = 7 + (5 + k) := by omega
  simp only [fieldAt, place, Record.report_byte h (show 5 + k < 9 by omega), f.encode_denied_some hk held]
  exact (deniedCode_fields lane reason).2

theorem Record.report_undenied (h : r.body = .frame f) {k : Nat} (hk : k < 4) (absent : f.denied[k]? = none) :
    fieldAt r.encode (12 + k) 0 8 = 0 := by
  have place : 12 + k = 7 + (5 + k) := by omega
  rw [fieldAt_whole, place, Record.report_byte h (by omega), f.encode_denied_none hk absent]

/-- A whole byte that the kind uses. -/
theorem Record.whole_byte {j k : Nat} (h : r.body.fields[j]? = some (byte k)) (hj : j < 9) (hk : k < 256) :
    fieldAt r.encode (7 + j) 0 8 = k := by
  rw [fieldAt_whole, r.encode_field hj, byteAt, List.getD_eq_getElem?_getD, h]
  exact toNat_byte_of_lt hk

/-- A record whose kind uses one byte. -/
theorem Record.single_byte {k : Nat} (h : r.body.fields = [byte k]) (hk : k < 256) :
    fieldAt r.encode 7 0 8 = k ∧ r.encode.drop 8 = List.replicate 8 0 := by
  have rest : r.encode.drop 8 = (padTo 9 r.body.fields).drop 1 := rfl
  exact ⟨Record.whole_byte (j := 0) (by rw [h]; rfl) (by decide) hk, by rw [rest, h]; rfl⟩

/-- A record whose second byte is an entry behind its present bit. -/
theorem Record.second_entry {first : Byte} {e : Fin 64} {rest : List Byte}
    (h : r.body.fields = first :: byte (presentEntry (some e)) :: rest) :
    fieldAt r.encode 8 7 1 = 1 ∧ fieldAt r.encode 8 0 6 = e.val := by
  have value : byteAt r.encode 8 = presentEntry (some e) := by
    rw [r.encode_field (j := 1) (by decide), h]
    exact toNat_byte_presentEntry _
  obtain ⟨present, index⟩ := fieldAt_presentEntry value
  exact ⟨present.2 rfl, index e rfl⟩

end

/-- Settles O12: READ LOG case by case, then the image of a record kind by kind. -/
theorem readLogYieldsGapThenOldestThenEmpty : Obligations.ReadLogYieldsGapThenOldestThenEmpty := by
  refine ⟨fun s ht => ⟨fun gap => ?gap, fun r rest noGap queue => ?record, fun noGap queue => ?empty⟩,
    gapImage_eq, fun r => ⟨r.encode_frame, r.encode_epoch, ?kind, ?fields⟩⟩
  case gap =>
    rw [exec_readLog ht, readLogAction_gap gap]
    exact ⟨rfl, recordImage_length _ _ _ _⟩
  case record =>
    rw [exec_readLog ht, readLogAction_record noGap queue]
    exact ⟨rfl, recordImage_length _ _ _ _⟩
  case empty => rw [exec_readLog ht, readLogAction_empty noGap queue]
  case kind =>
    refine (fieldAt_whole _ _).trans (r.encode_kind.trans ?_)
    cases r.body <;> rfl
  case fields =>
    obtain ⟨body, frame, epoch⟩ := r
    cases body with
    | frame f =>
      have body : (⟨.frame f, frame, epoch⟩ : Record).body = .frame f := rfl
      obtain ⟨outcome, late, truncated, headBusy, shortBurst, turn⟩ := Record.report_marks body
      obtain ⟨planned, planIndex⟩ := Record.report_planIndex body
      refine ⟨outcome.trans ?outcome, late, truncated, headBusy, shortBurst, turn, planned, planIndex,
        Record.report_exposures body, fun c => (Record.report_channel body c).trans ?channel,
        fun l => congrArg (BitVec.getLsbD · l.val) (Record.report_granted body),
        fun k hk => ⟨fun lane reason held => ?denied, Record.report_undenied body hk⟩⟩
      case outcome => cases f.outcome <;> rfl
      case channel =>
        rcases f.channels.get c with _ | _ | _ | reason | _ | _
        case some.denied => cases reason <;> rfl
        all_goals rfl
      case denied =>
        obtain ⟨present, index, code⟩ := Record.report_denied body hk held
        refine ⟨present, index, code.trans ?_⟩
        cases reason <;> rfl
    | memberAdded i | stray i | memberLost i | memberLeft i => exact Record.single_byte rfl (by omega)
    | foreign slots => rfl
    | slip old new => rfl
    | epoch segment | epochLate segment =>
      cases segment with
      | none => exact Record.single_byte (k := 0xFF) rfl (by decide)
      | some e => exact Record.single_byte rfl (by omega)
    | fault cause => cases cause <;> exact Record.single_byte rfl (by decide)
    | verifyDone result =>
      cases result with
      | pass =>
        have second : byteAt (Record.encode ⟨.verifyDone .pass, frame, epoch⟩) 8 = 0 := rfl
        refine ⟨Record.whole_byte (j := 0) (k := 1) rfl (by decide) (by decide), ?_, rfl⟩
        exact (congrArg (· / 2 ^ 7 % 2 ^ 1) second).trans (by decide)
      | fail e code =>
        obtain ⟨present, entry⟩ := Record.second_entry (r := ⟨.verifyDone (.fail e code), frame, epoch⟩) rfl
        refine ⟨Record.whole_byte (j := 0) (k := 2) rfl (by decide) (by decide), present, entry,
          (Record.whole_byte (j := 2) rfl (by decide) code.code_lt).trans ?_, rfl⟩
        cases code <;> rfl
      | interrupted e =>
        obtain ⟨present, entry⟩ := Record.second_entry (r := ⟨.verifyDone (.interrupted e), frame, epoch⟩) rfl
        exact ⟨Record.whole_byte (j := 0) (k := 3) rfl (by decide) (by decide), present, entry, rfl⟩
    | adopted | founded | yielded | joined | left | stall | resumed | epochAdopted | restart => rfl

end Sys2Proof.Machine
end

section
/-! SUPPORT. The control port: when a command is taken and what MISO carries for it (O6), and the bytes that spell each
command (O7). -/

namespace Sys2Proof.Machine

-- As one text the package has more proofs at work at once than the compile has memory for; these run one by one.
set_option Elab.async false

/-! ### What MISO carries (R169, R171) -/

section
variable {p : Port}

/-- Bytes behind `n` bytes of filler. -/
theorem getD_filler_append (n : Nat) (l : List Byte) (i : Nat) :
    (List.replicate n 0 ++ l).getD i 0 = if i < n then 0 else l.getD (i - n) 0 := by
  split
  · next inside => rw [List.getD_append _ _ _ _ (by simpa using inside), List.getD_replicate _ inside]
  · next beyond => rw [List.getD_append_right _ _ _ _ (by simpa using beyond), List.length_replicate]

theorem Port.miso_selected (selected : p.selected = true) (timing i : Nat) :
    p.miso timing i =
      some (if i < p.fillerBytes timing then 0 else p.replyBytes.getD (i - p.fillerBytes timing) 0) := by
  rw [Port.miso, if_pos selected, getD_filler_append]

theorem Port.replyBytes_result {code : ResultCode} (result : p.result = some code) :
    p.replyBytes = code.code :: p.data := by
  rw [Port.replyBytes, result]
  rfl

/-- A reply comes behind one or more bytes of filler (log entry 5). -/
theorem Port.miso_reply {code : ResultCode} (selected : p.selected = true) (result : p.result = some code)
    (filler : p.oneFiller = false) (timing i : Nat) :
    p.miso timing i = some (if i < max 1 timing then 0 else (code.code :: p.data).getD (i - max 1 timing) 0) := by
  rw [Port.miso_selected selected, Port.replyBytes_result result, Port.fillerBytes, filler]
  rfl

/-- With no result and no data MISO carries filler alone. -/
theorem Port.miso_awaiting (selected : p.selected = true) (result : p.result = none) (data : p.data = [])
    (timing i : Nat) : p.miso timing i = some 0 := by
  have empty : p.replyBytes = [] := by rw [Port.replyBytes, result, data]; rfl
  rw [Port.miso_selected selected, empty, List.getD_nil, ite_self]

/-- The refusal of a command byte comes behind a single byte of filler (R170). -/
theorem Port.miso_refusal {code : ResultCode} (selected : p.selected = true) (result : p.result = some code)
    (data : p.data = []) (filler : p.oneFiller = true) (timing : Nat) :
    p.miso timing 0 = some 0 ∧ p.miso timing 1 = some code.code ∧ ∀ i, p.miso timing (i + 2) = some 0 := by
  simp only [Port.miso_selected selected, Port.replyBytes_result result, data, Port.fillerBytes, filler]
  exact ⟨rfl, rfl, fun _ => rfl⟩

end

/-! ### When a command is taken (R169, R170, R177, R179) -/

section
variable {s : State} {c : Instr}

theorem State.endEarly_reset (held : s.rstnLow = true) : s.endEarly = s := if_pos held

theorem State.endEarly_released (released : s.rstnLow = false) : s.endEarly = s.noReply := by
  simp [State.endEarly, released]

theorem State.refuseByte_reset (held : s.rstnLow = true) : s.refuseByte = s := if_pos held

theorem State.refuseByte_released (released : s.rstnLow = false) :
    s.refuseByte =
      { s with port := { (s.reply .range).port with oneFiller := true, waiting := s.port.cutWaiting } } := by
  simp [State.refuseByte, released]

/-- What a command can do: it is handed over; or, where it is not, its transaction ends early or its byte is refused. -/
theorem exec_command (command : isCommand c = true) (s : State) :
    HandedOver c ∧ exec c s = .next (s.handOver c (portAction c)) ∨
      ¬ HandedOver c ∧ (exec c s = .next s.endEarly ∨ exec c s = .next s.refuseByte) := by
  cases c
  case setProfile image =>
    by_cases whole : 14 ≤ image.length
    · exact .inl ⟨⟨rfl, fun _ same => Instr.setProfile.inj same ▸ whole, nofun, nofun⟩,
        congrArg _ (State.handOverImage_whole whole)⟩
    · exact .inr ⟨fun ⟨_, profile, _⟩ => whole (profile image rfl), .inl (congrArg _ (if_pos (Nat.not_le.1 whole)))⟩
  case writePlan index image =>
    by_cases whole : 72 ≤ image.length
    · exact .inl ⟨⟨rfl, nofun, fun _ _ same => (Instr.writePlan.inj same).2 ▸ whole, nofun⟩,
        congrArg _ (State.handOverImage_whole whole)⟩
    · exact .inr ⟨fun ⟨_, _, plan, _⟩ => whole (plan index image rfl),
        .inl (congrArg _ (if_pos (Nat.not_le.1 whole)))⟩
  case unassignedCommand code argument =>
    by_cases assigned : assignedCodes.contains code = true
    · exact .inl ⟨⟨rfl, nofun, nofun, fun _ _ same => (Instr.unassignedCommand.inj same).1 ▸ assigned⟩,
        congrArg _ (if_pos assigned)⟩
    · exact .inr ⟨fun ⟨_, _, _, byte⟩ => assigned (byte code argument rfl), .inr (congrArg _ (if_neg assigned))⟩
  case profileDone | readPlan | verify | join | leaveFrameEnd | leaveSegmentEnd | leaveImmediate | restart | clearFault
    | stage | unstage | readySwitch | readyKeep | unready | readStatus | readLog | readRoster | readGrants =>
    exact .inl ⟨⟨rfl, nofun, nofun, nofun⟩, rfl⟩
  all_goals cases command

/-- Held in reset no command is taken (R179). -/
theorem exec_command_reset (command : isCommand c = true) (held : s.rstnLow = true) : exec c s = .next s := by
  obtain ⟨-, handed⟩ | ⟨-, early | refused⟩ := exec_command command s
  · rw [handed, State.handOver_reset held]
  · rw [early, State.endEarly_reset held]
  · rw [refused, State.refuseByte_reset held]

/-- Without ticks a command that is handed over waits (R177). -/
theorem exec_handedOver_lost (hc : HandedOver c) (released : s.rstnLow = false) (lost : s.timebase.lost = true) :
    exec c s = .next { s with port := s.port.await c } := by
  obtain ⟨-, handed⟩ | ⟨other, -⟩ := exec_command hc.1 s
  · rw [handed, State.handOver_lost released lost]
  · exact absurd hc other

theorem transactionCutShortEffect_reset (held : s.rstnLow = true) (cut : CutPoint) :
    transactionCutShortEffect cut s = s := by
  cases cut with
  | acrossReset => rfl
  | beforeTaken => exact State.endEarly_reset held
  | inResult => exact if_pos held
  | inData shifted => exact if_pos held

/-- An unassigned command byte is refused at once (R170). -/
theorem exec_unassignedByte {code : Byte} (free : assignedCodes.contains code = false) (argument : Byte)
    (s : State) : exec (.unassignedCommand code argument) s = .next s.refuseByte :=
  congrArg _ (if_neg (Bool.eq_false_iff.1 free))

/-- An unassigned mode is refused at its tick (R170, R181). -/
theorem exec_unassignedMode {code argument : Byte} (ht : s.ticking = true)
    (assigned : assignedCodes.contains code = true) (mode : unassigned code argument = true) :
    exec (.unassignedCommand code argument) s = .next (s.reply .range) := by
  have handed : HandedOver (.unassignedCommand code argument) :=
    ⟨rfl, nofun, nofun, fun _ _ same => (Instr.unassignedCommand.inj same).1 ▸ assigned⟩
  rw [exec_handedOver ht handed]
  exact congrArg _ (if_pos mode)

theorem unassigned_leave_iff (argument : Byte) : unassigned 0x31#8 argument = true ↔ 2 < argument.toNat := by
  simp [unassigned, assignedCodes]

theorem unassigned_ready_iff (argument : Byte) : unassigned 0x42#8 argument = true ↔ 1 < argument.toNat := by
  simp [unassigned, assignedCodes]

end

/-- Settles O6: the reply on MISO, then the command held in reset, waiting for a tick, and refused for its byte or
mode. -/
theorem commandsNeedATick : Obligations.CommandsNeedATick := by
  refine ⟨fun code data s => ?reply, fun c s => exec_command_reset,
    fun cut s held => congrArg _ (transactionCutShortEffect_reset held cut),
    fun c s command released lost profile plan byte => ?waits, fun code argument s released free => ?refused,
    fun argument s ht => ⟨fun above => ?leave, fun above => ?ready⟩⟩
  case reply =>
    intro resultByte
    have spelled : code.code = resultByte := by cases code <;> rfl
    exact ⟨rfl, rfl, fun timing i => spelled ▸ Port.miso_reply rfl rfl rfl timing i⟩
  case waits =>
    exact ⟨_, exec_handedOver_lost ⟨command, profile, plan, byte⟩ released lost, rfl, Port.miso_awaiting rfl rfl rfl⟩
  case refused =>
    exact ⟨_, (exec_unassignedByte free argument s).trans (congrArg _ (State.refuseByte_released released)), rfl,
      Port.miso_refusal (code := .range) rfl rfl rfl rfl⟩
  case leave => exact exec_unassignedMode ht (by decide) ((unassigned_leave_iff argument).2 above)
  case ready => exact exec_unassignedMode ht (by decide) ((unassigned_ready_iff argument).2 above)

/-! ### The bytes that spell a command (section 11.2) -/

section
variable {code argument : Byte}

theorem commandOf_setProfile {image : List Byte} (whole : image.length = 14) :
    commandOf (0x10#8 :: image) = some (.setProfile image) := by
  have taken : commandOf (0x10#8 :: image) = some (.setProfile (image.take 14)) := if_neg (Nat.not_lt.2 whole.ge)
  rw [taken, List.take_of_length_le whole.le]

theorem commandOf_writePlan {image : List Byte} (whole : image.length = 72) (index : Byte) :
    commandOf (0x20#8 :: index :: image) = some (.writePlan index image) := by
  have taken : commandOf (0x20#8 :: index :: image) = some (.writePlan index (image.take 72)) :=
    if_neg (Nat.not_lt.2 whole.ge)
  rw [taken, List.take_of_length_le whole.le]

/-- A mode byte beyond the modes makes an unassigned command (R181). -/
theorem modeByte_above {modes : List Instr} (above : modes.length ≤ argument.toNat) (rest : List Byte) :
    modeByte code modes (argument :: rest) = some (.unassignedCommand code argument) := by
  rw [modeByte, List.getElem?_eq_none above]
  rfl

/-- An unassigned command byte is no assigned one's number. -/
theorem toNat_ne_of_free (free : assignedCodes.contains code = false) {k : Nat}
    (assigned : assignedCodes.contains (byte k) = true) : code.toNat ≠ k := by
  rintro rfl
  rw [byte, BitVec.ofNat_toNat, BitVec.setWidth_eq, free] at assigned
  cases assigned

/-- An unassigned command byte is read as an unassigned command (R170). -/
theorem commandOf_free (free : assignedCodes.contains code = false) (argument : Byte) :
    commandOf [code, argument] = some (.unassignedCommand code argument) := by
  rw [commandOf]
  split
  case h_18 => rfl
  all_goals
    next same => exact absurd same (toNat_ne_of_free free (by decide))

/-- What makes a command unassigned: its byte, or the mode of a LEAVE or a READY (R170, R181). -/
theorem unassigned_cases (h : unassigned code argument = true) :
    assignedCodes.contains code = false ∨ code = 0x31#8 ∧ 2 < argument.toNat ∨
      code = 0x42#8 ∧ 1 < argument.toNat := by
  simpa only [unassigned, Bool.or_eq_true, Bool.and_eq_true, Bool.not_eq_true', beq_iff_eq, decide_eq_true_eq,
    or_assoc] using h

theorem commandOf_unassigned (h : unassigned code argument = true) :
    commandOf [code, argument] = some (.unassignedCommand code argument) := by
  obtain free | ⟨rfl, above⟩ | ⟨rfl, above⟩ := unassigned_cases h
  · exact commandOf_free free argument
  · exact modeByte_above (modes := [.leaveFrameEnd, .leaveSegmentEnd, .leaveImmediate]) above []
  · exact modeByte_above (modes := [.readySwitch, .readyKeep]) above []

end

/-- Settles O7, by the command: an image is whole, a mode or a byte is assigned or not, and every other command is read
from its byte alone. -/
theorem transactionBytesSpellTheirCommand : Obligations.TransactionBytesSpellTheirCommand := by
  intro c bytes formed spelled
  cases c
  case setProfile image =>
    cases spelled
    exact commandOf_setProfile (beq_iff_eq.1 formed)
  case writePlan index image =>
    cases spelled
    exact commandOf_writePlan (beq_iff_eq.1 formed) index
  case unassignedCommand code argument =>
    cases spelled
    exact commandOf_unassigned formed
  case profileDone | readPlan | verify | join | leaveFrameEnd | leaveSegmentEnd | leaveImmediate | restart | clearFault
    | stage | unstage | readySwitch | readyKeep | unready | readStatus | readLog | readRoster | readGrants =>
    cases spelled
    rfl
  all_goals cases spelled

end Sys2Proof.Machine
end

section
/-! SUPPORT. The profile: the checks on its image (O9), and the two commands that store it and put it in force (O8). -/

namespace Sys2Proof.Machine

-- As one text the package has more proofs at work at once than the compile has memory for; these run one by one.
set_option Elab.async false

/-! ### The profile image (R173) -/

section
variable {img : List Byte} {p : Profile}

/-- The checks of R173 on an image. -/
def Profile.Checked (img : List Byte) : Prop :=
  1 ≤ byteAt img 0 ∧ byteAt img 0 ≤ 16 ∧ 160 ≤ pairAt img 1 ∧ pairAt img 1 ≤ 1000 ∧ 5 ≤ pairAt img 3 ∧
    pairAt img 3 ≤ 2000 ∧ pairAt img 3 < pairAt img 5 ∧ pairAt img 5 ≤ 4000 ∧ 1 ≤ byteAt img 7 ∧ byteAt img 7 ≤ 7 ∧
    byteAt img 8 < byteAt img 0 ∧ 4 ≤ byteAt img 9 ∧ byteAt img 9 ≤ 40 ∧ byteAt img 10 ≤ 1 ∧
    byteAt img 0 * pairAt img 1 < pairAt img 3 * 1000

/-- The items of an image, field by field (11.3). -/
def Profile.read (img : List Byte) : Profile :=
  { width := byteAt img 0, slotTime := pairAt img 1, holdLimit := pairAt img 3, stallLimit := pairAt img 5
    missLimit := byteAt img 7, index := Fin.ofNat 16 (byteAt img 8), divider := byteAt img 9
    policy := if byteAt img 10 = 0 then .all else .exceptions
    attention := BitVec.ofNat 24 (tripleAt img 11) }

theorem Profile.decode_isSome_iff : (Profile.decode img).isSome = true ↔ Profile.Checked img := Option.isSome_ite

/-- An image gives a profile when it passes the checks, and then its items. -/
theorem Profile.decode_eq_some_iff : Profile.decode img = some p ↔ Profile.Checked img ∧ Profile.read img = p :=
  Option.ite_none_right_eq_some.trans (and_congr_right fun _ => Option.some_inj)

theorem Profile.read_policy (assigned : byteAt img 10 ≤ 1) :
    (Profile.read img).policy = .exceptions ↔ byteAt img 10 = 1 := by
  change (if byteAt img 10 = 0 then Policy.all else .exceptions) = .exceptions ↔ _
  split
  · next zero => simp [zero]
  · next nonzero => exact iff_of_true rfl (by omega)

theorem Profile.read_index (inside : byteAt img 8 < 16) : (Profile.read img).index.val = byteAt img 8 :=
  Nat.mod_eq_of_lt inside

end

/-- Settles O9: the checks decide whether there is a profile, and it is the image's fields. -/
theorem acceptedProfilesKeepTheirRanges : Obligations.AcceptedProfilesKeepTheirRanges := by
  refine ⟨fun img => Profile.decode_isSome_iff, fun img p decoded => ?items, ?zeros⟩
  case items =>
    obtain ⟨checked, rfl⟩ := Profile.decode_eq_some_iff.1 decoded
    obtain ⟨-, width, -, -, -, -, -, -, -, -, index, -, -, policy, -⟩ := checked
    exact ⟨rfl, rfl, rfl, rfl, rfl, Profile.read_index (index.trans_le width), rfl, Profile.read_policy policy, rfl⟩
  case zeros => decide

/-! ### SET PROFILE (R170, R172) -/

section
variable {s : State} {image : List Byte}

/-- An image that ends early is not taken, ticks or not. -/
theorem exec_setProfile_short (released : s.rstnLow = false) (short : image.length < 14) :
    exec (.setProfile image) s = .next s.noReply :=
  congrArg _ ((if_pos short).trans (State.endEarly_released released))

theorem exec_setProfile_whole (ht : s.ticking = true) (whole : 14 ≤ image.length) :
    exec (.setProfile image) s = .next (setProfileAction image s) :=
  congrArg _ ((State.handOverImage_whole whole).trans (State.handOver_ticking ht))

theorem setProfileAction_stores (fresh : s.membership.state = .unconfigured) (image : List Byte) :
    setProfileAction image s = { s with store := image.take 14 }.reply .accepted := if_pos fresh

theorem setProfileAction_refused (configured : s.membership.state ≠ .unconfigured) (image : List Byte) :
    setProfileAction image s = s.reply .state := if_neg configured

end

/-! ### PROFILE DONE (R173 to R176) -/

section
variable {s : State}

theorem exec_profileDone (ht : s.ticking = true) : exec .profileDone s = .next (profileDoneAction s) :=
  State.command_next ht

theorem profileDoneAction_refused (configured : s.membership.state ≠ .unconfigured) :
    profileDoneAction s = s.reply .state := if_neg configured

theorem profileDoneAction_failed (fresh : s.membership.state = .unconfigured)
    (failed : Profile.decode s.store = none) : profileDoneAction s = s.reply .range :=
  (if_pos fresh).trans (by rw [failed])

theorem profileDoneAction_passed {p : Profile} (fresh : s.membership.state = .unconfigured)
    (passed : Profile.decode s.store = some p) : profileDoneAction s = (s.configure p).reply .accepted :=
  (if_pos fresh).trans (by rw [passed])

end

/-- Settles O8: SET PROFILE by its image's length and the station state, PROFILE DONE by the state and the store. -/
theorem profilesAreStoredUncheckedAndCheckedIntoForce : Obligations.ProfilesAreStoredUncheckedAndCheckedIntoForce := by
  refine fun image s => ⟨exec_setProfile_short, fun ht => ?_⟩
  rw [exec_profileDone ht]
  exact ⟨fun whole fresh => (exec_setProfile_whole ht whole).trans (congrArg _ (setProfileAction_stores fresh image)),
    fun whole configured =>
      (exec_setProfile_whole ht whole).trans (congrArg _ (setProfileAction_refused configured image)),
    fun configured => congrArg _ (profileDoneAction_refused configured),
    fun fresh failed => congrArg _ (profileDoneAction_failed fresh failed),
    fun p fresh passed => congrArg _ (profileDoneAction_passed fresh passed)⟩

end Sys2Proof.Machine
end

section
/-! SUPPORT. READ STATUS: the status image byte by byte (O11). -/

namespace Sys2Proof.Machine

-- As one text the package has more proofs at work at once than the compile has memory for; these run one by one.
set_option Elab.async false

theorem exec_readStatus {s : State} (ht : s.ticking = true) : exec .readStatus s = .next (readStatusAction s) :=
  State.command_next ht

/-! ### The codes of the status image (11.7) -/

theorem StationState.code_lt (x : StationState) : x.code < 9 := by cases x <;> decide

theorem faultCode_lt (x : Option FaultCause) : faultCode x < 6 := by
  cases x with
  | none => decide
  | some cause => cases cause <;> decide

theorem VerifyStatus.code_lt (x : VerifyStatus) : x.code < 4 := by cases x <;> simp [VerifyStatus.code]

theorem LockState.code_lt (x : LockState) : x.code < 3 := by cases x <;> decide

theorem VerifyStatus.failure_lt (x : VerifyStatus) : x.failure < 256 := by
  cases x with
  | fail entry code => exact code.code_lt
  | idle _ | running _ | pass => exact Nat.zero_lt_succ 255

theorem VerifyStatus.interrupted_iff (x : VerifyStatus) : x.interrupted = true ↔ ∃ e, x = .idle (some e) := by
  rcases x with (_ | entry) | _ | _ | _ <;> simp [VerifyStatus.interrupted]

/-- An entry is reported where one interrupted the walk, or where one failed (R122). -/
theorem VerifyStatus.entry_eq_some_iff (x : VerifyStatus) (e : Fin 64) :
    x.entry = some e ↔ x = .idle (some e) ∨ ∃ c, x = .fail e c := by
  cases x <;> simp [VerifyStatus.entry]

/-- The turn state without its late marker. -/
def TurnState.code : TurnState → Nat
  | .idle => 0
  | .catchingUp => 1
  | .advanceDue _ => 2

/-- The late marker of the turn state. -/
def TurnState.late : TurnState → Bool
  | .advanceDue late => late
  | .idle | .catchingUp => false

theorem TurnState.bits_eq (x : TurnState) : x.bits = x.code * 8 + x.late.toNat * 4 := by
  cases x with
  | advanceDue late => cases late <;> rfl
  | idle | catchingUp => rfl

theorem TurnState.code_lt (x : TurnState) : x.code < 3 := by cases x <;> simp [TurnState.code]

theorem TurnState.late_iff (x : TurnState) : x.late = true ↔ x = .advanceDue true := by
  cases x <;> simp [TurnState.late]

/-- The mode KEEP, in its own bit. -/
def keepMode : Option ReadyMode → Bool
  | some .keep => true
  | some .switch | none => false

theorem readyBits_eq (x : Option ReadyMode) : readyBits x = x.isSome.toNat * 128 + (keepMode x).toNat * 64 := by
  rcases x with _ | _ | _ <;> rfl

/-! ### The fields of the status image -/

section
variable (s : State)

/-- The station state and the fault cause (byte 0). -/
theorem State.statusImage_station :
    fieldAt s.statusImage 0 4 4 = s.membership.state.code ∧
      fieldAt s.statusImage 0 0 4 = faultCode s.membership.fault := by
  have stateLt := s.membership.state.code_lt
  have faultLt := faultCode_lt s.membership.fault
  have value : byteAt s.statusImage 0 = s.membership.state.code * 16 + faultCode s.membership.fault :=
    toNat_byte_of_lt (by omega)
  simp only [fieldAt, value]
  omega

/-- The verify status, the interrupted marker, the lock state and ATTN (byte 1). -/
theorem State.statusImage_marks :
    fieldAt s.statusImage 1 6 2 = s.verifier.code ∧
      (fieldAt s.statusImage 1 5 1 = 1 ↔ s.verifier.interrupted = true) ∧
      fieldAt s.statusImage 1 3 2 = s.timebase.lock.code ∧ (fieldAt s.statusImage 1 2 1 = 1 ↔ s.attn = true) := by
  have verifierLt := s.verifier.code_lt
  have interruptedLe := s.verifier.interrupted.toNat_le
  have lockLt := s.timebase.lock.code_lt
  have attnLe := s.attn.toNat_le
  have value : byteAt s.statusImage 1 =
      s.verifier.code * 64 + s.verifier.interrupted.toNat * 32 + s.timebase.lock.code * 8 + s.attn.toNat * 4 := by
    change (byte (s.verifier.code * 64 + flagBit 5 s.verifier.interrupted + s.timebase.lock.code * 8 +
      flagBit 2 s.attn)).toNat = _
    rw [flagBit_eq, flagBit_eq]
    exact toNat_byte_of_lt (by omega)
  simp only [fieldAt, value, ← Bool.toNat_eq_one]
  omega

/-- The failing or interrupting entry behind its present bit (byte 2). -/
theorem State.statusImage_entry :
    (fieldAt s.statusImage 2 7 1 = 1 ↔ s.verifier.entry.isSome = true) ∧
      ∀ e, s.verifier.entry = some e → fieldAt s.statusImage 2 0 6 = e.val :=
  fieldAt_presentEntry (toNat_byte_presentEntry _)

/-- The failure code (byte 3). -/
theorem State.statusImage_failure : fieldAt s.statusImage 3 0 8 = s.verifier.failure :=
  (fieldAt_whole _ _).trans (toNat_byte_of_lt s.verifier.failure_lt)

/-- The ready flag and mode, the deferred unready, the turn state and the late marker (byte 10). -/
theorem State.statusImage_turn :
    (fieldAt s.statusImage 10 7 1 = 1 ↔ s.epochs.ready.isSome = true) ∧
      fieldAt s.statusImage 10 6 1 = (keepMode s.epochs.ready).toNat ∧
      (fieldAt s.statusImage 10 5 1 = 1 ↔ s.epochs.deferred = true) ∧
      fieldAt s.statusImage 10 3 2 = s.epochs.turn.code ∧
      (fieldAt s.statusImage 10 2 1 = 1 ↔ s.epochs.turn.late = true) := by
  have readyLe := s.epochs.ready.isSome.toNat_le
  have keepLe := (keepMode s.epochs.ready).toNat_le
  have deferredLe := s.epochs.deferred.toNat_le
  have turnLt := s.epochs.turn.code_lt
  have lateLe := s.epochs.turn.late.toNat_le
  have value : byteAt s.statusImage 10 =
      s.epochs.ready.isSome.toNat * 128 + (keepMode s.epochs.ready).toNat * 64 + s.epochs.deferred.toNat * 32 +
        (s.epochs.turn.code * 8 + s.epochs.turn.late.toNat * 4) := by
    change (byte (readyBits s.epochs.ready + flagBit 5 s.epochs.deferred + s.epochs.turn.bits)).toNat = _
    rw [readyBits_eq, flagBit_eq, TurnState.bits_eq]
    exact toNat_byte_of_lt (by omega)
  simp only [fieldAt, value, ← Bool.toNat_eq_one]
  omega

/-- The staged segment's start behind its present bit (byte 11). -/
theorem State.statusImage_staged :
    (fieldAt s.statusImage 11 7 1 = 1 ↔ s.epochs.staged.isSome = true) ∧
      ∀ e, s.epochs.staged = some e → fieldAt s.statusImage 11 0 6 = e.val :=
  fieldAt_presentEntry (toNat_byte_presentEntry _)

end

/-- Settles O11: the command, its bytes on MISO, and the image field by field with its codes. -/
theorem readStatusReturnsTheStatusImage : Obligations.ReadStatusReturnsTheStatusImage := by
  intro s ht
  obtain ⟨state, fault⟩ := s.statusImage_station
  obtain ⟨verify, interrupted, lock, attn⟩ := s.statusImage_marks
  obtain ⟨reported, entry⟩ := s.statusImage_entry
  obtain ⟨ready, mode, deferred, turn, late⟩ := s.statusImage_turn
  obtain ⟨staged, start⟩ := s.statusImage_staged
  refine ⟨exec_readStatus ht, Port.miso_reply (code := .accepted) rfl rfl rfl, rfl,
    ⟨state.trans ?state, fault.trans ?fault, verify.trans ?verify, interrupted.trans s.verifier.interrupted_iff,
      lock.trans ?lock, attn, reported.trans ?reported,
      fun e held => entry e ((s.verifier.entry_eq_some_iff e).2 held), s.statusImage_failure.trans ?failure,
      ready, fun switch => mode.trans (by rw [switch]; rfl), fun keep => mode.trans (by rw [keep]; rfl), deferred,
      turn.trans ?turn, late.trans s.epochs.turn.late_iff, staged, start⟩, rfl, rfl, rfl, rfl, rfl⟩
  case state => cases s.membership.state <;> rfl
  case fault =>
    cases s.membership.fault with
    | none => rfl
    | some cause => cases cause <;> rfl
  case verify => cases s.verifier <;> rfl
  case lock => cases s.timebase.lock <;> rfl
  case reported => simp only [Option.isSome_iff_exists, VerifyStatus.entry_eq_some_iff]
  case failure =>
    cases s.verifier with
    | fail e code => cases code <;> rfl
    | idle _ | running _ | pass => rfl
  case turn => cases s.epochs.turn <;> rfl

end Sys2Proof.Machine
end

section
/-! SUPPORT. The queue: a step takes the command at its front (O1), the resets keep what is behind it (O5), and so does every
command and event (O3). A lemma `…_queue` says that an operation leaves the queue, the field `pending`, as it is. -/

namespace Sys2Proof.Machine

-- As one text the package has more proofs at work at once than the compile has memory for; these run one by one.
set_option Elab.async false

/-! ### The front of the queue (R169) and the resets (R179) -/

/-- Settles O1: the queue's rest is the queue that the state has without the command put in front. -/
theorem stepRunsTheFrontCommand : Obligations.StepRunsTheFrontCommand :=
  fun c s => step_front c s.pending { s with pending := c :: s.pending } rfl

theorem exec_powerOnReset (s : State) : exec .powerOnReset s = .next s.hardReset := rfl

theorem exec_rstnLow (s : State) : exec .rstnLow s = .next { s.hardReset with rstnLow := true } := rfl

theorem exec_rstnRelease (s : State) : exec .rstnRelease s = .next { s with rstnLow := false } := rfl

/-- Settles O5: both resets are the hard reset, which keeps the queue, the count of free choices and the levels outside. -/
theorem resetsRestoreTheResetState : Obligations.ResetsRestoreTheResetState :=
  fun s => ⟨exec_powerOnReset s, exec_rstnLow s, exec_rstnRelease s⟩

/-! ### The queue in the shared operations -/

theorem State.hardReset_queue (s : State) : s.hardReset.pending = s.pending := rfl

theorem State.endEarly_queue (s : State) : s.endEarly.pending = s.pending :=
  State.endEarly_elim (p := fun t => t.pending = s.pending) rfl rfl

theorem State.refuseByte_queue (s : State) : s.refuseByte.pending = s.pending := by
  unfold State.refuseByte
  split <;> rfl

/-- A command that is handed over leaves the queue as its action does: waiting is a matter of the port. -/
theorem State.handOver_queue {f : State → State} {s : State} (c : Instr) (h : (f s).pending = s.pending) :
    (s.handOver c f).pending = s.pending :=
  State.handOver_elim (p := fun t => t.pending = s.pending) rfl rfl h

theorem State.onTick_queue {f : State → State} {s : State} (h : (f s).pending = s.pending) :
    (s.onTick f).pending = s.pending :=
  State.onTick_elim (p := fun t => t.pending = s.pending) rfl h

theorem State.concludeSlot_queue (slot : Fin 16) (o : SlotOutcome) (s : State) :
    (s.concludeSlot slot o).pending = s.pending := by
  rw [State.concludeSlot_frame]

theorem State.hearNote_queue (slipped : Bool) (n : Note) (s : State) :
    (s.hearNote slipped n).pending = s.pending := by
  rw [State.hearNote_frame]

theorem State.releaseFrame_queue (chains : List (List Record)) (s : State) :
    (s.releaseFrame chains).pending = s.pending := by
  unfold State.releaseFrame
  split
  · exact s.enterStandby_pending _ _
  · rfl

theorem State.forcedRelease_queue (s : State) : s.forcedRelease.pending = s.pending := by
  unfold State.forcedRelease
  simp only
  split
  · exact State.enterStandby_pending _ _ _
  · exact State.releaseFrame_queue _ _

/-! ### The window and the mark -/

theorem State.afterHandoff_queue (s : State) : s.afterHandoff.pending = s.pending := by
  unfold State.afterHandoff
  rcases State.cursorAtEnd_cases _ s with e | ⟨content, e⟩ <;> rw [e]
  rfl

theorem State.handoff_queue (s : State) : s.handoff.pending = s.pending := by
  unfold State.handoff
  split
  · exact s.detach_pending _ _
  · exact (State.finish_pending _ _).trans s.afterHandoff_queue

theorem State.closeEarly_queue (s : State) : s.closeEarly.pending = s.pending := by
  unfold State.closeEarly
  split
  · exact State.handoff_queue _
  · rfl

theorem State.beginFrame_queue (start : FrameStart) (s : State) : (s.beginFrame start).pending = s.pending := by
  obtain ⟨m, c, e, transit⟩ := s.startFrame_transit start (s.frameAtMark start)
  rw [State.beginFrame_eq transit]
  rfl

/-- Whatever the mark begins, it begins on the state that the early close leaves. -/
theorem State.takeMark_queue (s : State) : s.takeMark.pending = s.pending := by
  unfold State.takeMark
  simp only
  split
  · exact State.closeEarly_queue _
  all_goals simp only [State.beginFrame_queue, State.closeEarly_queue]

theorem State.toSample_queue (s : State) : s.toSample.pending = s.pending := by
  unfold State.toSample
  split <;> rfl

theorem State.sampleFrame_queue (high : Bool) (s : State) : (s.sampleFrame high).pending = s.pending := by
  unfold State.sampleFrame
  simp only
  split
  · exact State.takeMark_queue _
  · rfl

theorem frameMarkEffect_queue (s : State) : (frameMarkEffect s).pending = s.pending :=
  (State.sampleFrame_queue true _).trans s.toSample_queue

theorem frameLevelChangeEffect_queue (high : Bool) (s : State) :
    (frameLevelChangeEffect high s).pending = s.pending := by
  unfold frameLevelChangeEffect
  split
  · exact (State.sampleFrame_queue high _).trans s.toSample_queue
  · rfl

theorem windowEndEffect_queue (s : State) : (windowEndEffect s).pending = s.pending := by
  unfold windowEndEffect
  split
  · exact State.handoff_queue _
  · rfl

/-! ### The timers of a frame -/

theorem participantPullEffect_queue (s : State) : (participantPullEffect s).pending = s.pending := by
  unfold participantPullEffect
  split <;> rfl

theorem minFrameTimeElapsedEffect_queue (s : State) : (minFrameTimeElapsedEffect s).pending = s.pending := by
  unfold minFrameTimeElapsedEffect
  split
  · split
    · exact State.finish_pending _ _
    · rfl
  · rfl

theorem holdLimitExpiryEffect_queue (s : State) : (holdLimitExpiryEffect s).pending = s.pending := by
  unfold holdLimitExpiryEffect
  split
  · split
    · exact State.forcedRelease_queue _
    · rfl
  · rfl

theorem stallTimerExpiryEffect_queue (s : State) : (stallTimerExpiryEffect s).pending = s.pending := by
  unfold stallTimerExpiryEffect
  repeat' split
  all_goals rfl

theorem listenTimerExpiryEffect_queue (s : State) : (listenTimerExpiryEffect s).pending = s.pending := by
  unfold listenTimerExpiryEffect
  repeat' split
  all_goals rfl

theorem foundingPulseEndEffect_queue (s : State) : (foundingPulseEndEffect s).pending = s.pending := by
  unfold foundingPulseEndEffect
  repeat' split
  all_goals rfl

/-! ### Exposures and strobes -/

theorem hcodeWordSentEffect_queue (s : State) : (hcodeWordSentEffect s).pending = s.pending := by
  unfold hcodeWordSentEffect
  split <;> rfl

theorem State.beginExposure_queue (t : Nat) (s : State) : (s.beginExposure t).pending = s.pending := by
  unfold State.beginExposure
  simp only
  split <;> rfl

theorem exposureStartEffect_queue (hrdy : Bool) (s : State) : (exposureStartEffect hrdy s).pending = s.pending := by
  unfold exposureStartEffect
  split
  · simp only
    split
    · exact State.beginExposure_queue _ _
    · exact State.finish_pending _ _
  · rfl

theorem exposureEndEffect_queue (s : State) : (exposureEndEffect s).pending = s.pending := by
  unfold exposureEndEffect
  simp only
  repeat' split
  all_goals rfl

theorem exposuresEndedEffect_queue (s : State) : (exposuresEndedEffect s).pending = s.pending := by
  unfold exposuresEndedEffect
  split
  · exact State.finish_pending _ _
  · rfl

theorem strobeDelayEndEffect_queue (channel : Fin 4) (s : State) :
    (strobeDelayEndEffect channel s).pending = s.pending := by
  unfold strobeDelayEndEffect
  split <;> rfl

theorem strobeOffEndEffect_queue (channel : Fin 4) (s : State) :
    (strobeOffEndEffect channel s).pending = s.pending := by
  unfold strobeOffEndEffect
  split <;> rfl

theorem strobeOnEndEffect_queue (channel : Fin 4) (s : State) :
    (strobeOnEndEffect channel s).pending = s.pending := by
  unfold strobeOnEndEffect
  split
  · simp only
    split
    · exact State.finishDrain_pending _
    · exact State.finish_pending _ _
  · rfl

/-! ### Notes and the verify walk -/

theorem searchSpanEndEffect_queue (slot : Fin 16) (low : Bool) (s : State) :
    (searchSpanEndEffect slot low s).pending = s.pending := by
  unfold searchSpanEndEffect
  split
  · exact State.concludeSlot_queue _ _ _
  · rfl

theorem State.takeNote_queue (slot : Fin 16) (n : Note) (s : State) : (s.takeNote slot n).pending = s.pending := by
  unfold State.takeNote
  simp only
  split
  · exact s.detach_pending _ _
  · exact (State.hearNote_queue _ _ _).trans (s.concludeSlot_queue _ _)

theorem State.takeReception_queue (slot : Fin 16) (bytes : List Byte) (s : State) :
    (s.takeReception slot bytes).pending = s.pending := by
  unfold State.takeReception
  simp only
  split
  · exact State.concludeSlot_queue _ _ _
  · exact State.concludeSlot_queue _ _ _
  · exact State.takeNote_queue _ _ _

theorem noteCompletionEffect_queue (slot : Fin 16) (r : Reception) (s : State) :
    (noteCompletionEffect slot r s).pending = s.pending := by
  unfold noteCompletionEffect
  split
  · exact State.takeReception_queue _ _ _
  · rfl

theorem State.becomeJoining_queue (s : State) : s.becomeJoining.pending = s.pending := by
  unfold State.becomeJoining
  split <;> rfl

theorem ownTransmissionStartEffect_queue (s : State) : (ownTransmissionStartEffect s).pending = s.pending := by
  unfold ownTransmissionStartEffect
  split
  · simp only
    split
    · exact State.becomeJoining_queue _
    · exact State.concludeSlot_queue _ _ _
  · rfl

theorem State.judgeReadback_queue (x : Transmission) (s : State) : (s.judgeReadback x).pending = s.pending := by
  unfold State.judgeReadback
  split
  · exact (State.detach_pending _ _ _).trans (s.concludeSlot_queue _ _)
  · exact s.concludeSlot_queue _ _

theorem State.endUnjudged_queue (s : State) : s.endUnjudged.pending = s.pending := by
  unfold State.endUnjudged
  split <;> rfl

theorem ownNoteCompletionEffect_queue (levels : List (Bool × Bool)) (s : State) :
    (ownNoteCompletionEffect levels s).pending = s.pending := by
  unfold ownNoteCompletionEffect
  split
  · simp only
    split
    · exact State.judgeReadback_queue _ _
    · exact State.endUnjudged_queue _
  · rfl

theorem partingNoteSendEffect_queue (s : State) : (partingNoteSendEffect s).pending = s.pending := by
  unfold partingNoteSendEffect
  split <;> rfl

theorem verifyWalkConclusionEffect_queue (s : State) : (verifyWalkConclusionEffect s).pending = s.pending := by
  unfold verifyWalkConclusionEffect
  split <;> rfl

/-! ### The commands of the port -/

theorem writeEntry_queue (entry : Fin 64) (content : Option Plan) (s : State) :
    (writeEntry entry content s).pending = s.pending := by
  unfold writeEntry
  simp only
  split <;> rfl

theorem writePlanAction_queue (index : Byte) (image : List Byte) (s : State) :
    (writePlanAction index image s).pending = s.pending := by
  unfold writePlanAction
  repeat' split
  case h_2 => exact writeEntry_queue _ _ s
  all_goals rfl

theorem State.leaveEarly_queue (s : State) : s.leaveEarly.pending = s.pending := by
  rw [State.leaveEarly_eq, State.enterStandby_pending]
  rfl

theorem State.leaveAtFrameEnd_queue (s : State) : s.leaveAtFrameEnd.pending = s.pending := by
  unfold State.leaveAtFrameEnd
  split <;> rfl

theorem State.leaveAtSegmentEnd_queue (s : State) : s.leaveAtSegmentEnd.pending = s.pending := by
  unfold State.leaveAtSegmentEnd
  split
  · exact s.leaveAtFrameEnd_queue
  · rfl

theorem State.departNow_queue (s : State) : s.departNow.pending = s.pending := rfl

theorem State.drain_queue (s : State) : s.drain.pending = s.pending := by
  rw [State.drain, State.finishDrain_pending]
  rfl

theorem State.leaveAtOnce_queue (s : State) : s.leaveAtOnce.pending = s.pending := by
  unfold State.leaveAtOnce
  split
  · rfl
  · split
    · rw [State.drain_queue, State.departNow_queue]
    · rw [State.enterStandby_pending, State.departNow_queue]

theorem leaveFrameEndAction_queue (s : State) : (leaveFrameEndAction s).pending = s.pending := by
  unfold leaveFrameEndAction
  repeat' split
  case h_5 | h_6 | h_7 => exact s.leaveEarly_queue
  all_goals simp only [State.reply_pending, State.leaveAtFrameEnd_queue]

theorem leaveSegmentEndAction_queue (s : State) : (leaveSegmentEndAction s).pending = s.pending := by
  unfold leaveSegmentEndAction
  repeat' split
  case h_5 | h_6 | h_7 => exact s.leaveEarly_queue
  all_goals simp only [State.reply_pending, State.leaveAtSegmentEnd_queue]

theorem leaveImmediateAction_queue (s : State) : (leaveImmediateAction s).pending = s.pending := by
  unfold leaveImmediateAction
  split
  case h_4 | h_5 | h_6 => exact s.leaveEarly_queue
  case h_7 | h_8 | h_9 => exact s.leaveAtOnce_queue
  all_goals rfl

/-- The commands that end a frame or a stay, and the one that writes the table, go through shared operations; every other
one replies beside a change of single fields. -/
theorem portAction_queue (c : Instr) (s : State) : (portAction c s).pending = s.pending := by
  cases c <;> simp only [portAction, id]
  case writePlan index image => exact writePlanAction_queue index image s
  case leaveFrameEnd => exact leaveFrameEndAction_queue s
  case leaveSegmentEnd => exact leaveSegmentEndAction_queue s
  case leaveImmediate => exact leaveImmediateAction_queue s
  case setProfile | profileDone | readPlan | verify | join | clearFault | stage | unstage | readySwitch | readyKeep
    | unready | readLog | readRoster | readGrants | unassignedCommand =>
    simp only [setProfileAction, profileDoneAction, readPlanAction, verifyAction, joinAction, clearFaultAction,
      stageAction, unstageAction, readyAction, unreadyAction, readLogAction, readRosterAction, readGrantsAction,
      unassignedCommandAction]
    repeat' split
    all_goals rfl
  case restart | readStatus => rfl

theorem transactionCutShortEffect_queue (cut : CutPoint) (s : State) :
    (transactionCutShortEffect cut s).pending = s.pending := by
  unfold transactionCutShortEffect
  cases cut with
  | acrossReset => rfl
  | beforeTaken => exact s.endEarly_queue
  | inResult =>
    simp only
    split <;> rfl
  | inData shifted =>
    unfold State.loseData
    simp only
    repeat' split
    all_goals rfl

/-! ### The timebase -/

theorem timebaseLossEffect_queue (s : State) : (timebaseLossEffect s).pending = s.pending := by
  unfold timebaseLossEffect State.loseTimebase
  simp only
  repeat' split
  all_goals rfl

theorem State.carryOut_queue (s : State) (x : Returning) : (s.carryOut x).pending = s.pending := by
  cases x with
  | record r => rfl
  | command c cut =>
    unfold State.carryOut State.takeWaiting
    simp only
    split <;> exact portAction_queue c s

theorem State.carryOutAll_queue (order : List Returning) (s : State) :
    (order.foldl State.carryOut s).pending = s.pending := by
  induction order generalizing s with
  | nil => rfl
  | cons x order ih => exact (ih _).trans (s.carryOut_queue x)

theorem tclkReturnEffect_queue (s : State) : (tclkReturnEffect s).pending = s.pending := by
  unfold tclkReturnEffect
  repeat' split
  case isTrue.isFalse => exact State.carryOutAll_queue _ _
  all_goals rfl

theorem settleCountCompleteEffect_queue (s : State) : (settleCountCompleteEffect s).pending = s.pending := by
  unfold settleCountCompleteEffect
  split <;> rfl

/-! ### Every command and event -/

/-- The outcome is a next state with the queue of `s`: the command neither stops the part nor touches the queue. -/
def KeepsQueue (s : State) (r : Result) : Prop := ∃ t, r = .next t ∧ t.pending = s.pending

theorem KeepsQueue.next {s t : State} (h : t.pending = s.pending) : KeepsQueue s (.next t) := ⟨t, rfl, h⟩

/-- An event of a tick keeps the queue as its effect does. -/
theorem KeepsQueue.event {s : State} {f : State → State} (h : ∀ s, (f s).pending = s.pending) :
    KeepsQueue s (.next (s.onTick f)) := .next (State.onTick_queue (h s))

/-- A command is handed over, ends early or is refused (R169, R170). -/
theorem exec_command_keepsQueue {c : Instr} (command : isCommand c = true) (s : State) : KeepsQueue s (exec c s) := by
  obtain ⟨-, handed⟩ | ⟨-, early | refused⟩ := exec_command command s
  · exact handed ▸ .next (State.handOver_queue c (portAction_queue c s))
  · exact early ▸ .next s.endEarly_queue
  · exact refused ▸ .next s.refuseByte_queue

theorem exec_keepsQueue (c : Instr) (s : State) : KeepsQueue s (exec c s) := by
  cases c
  case setProfile | profileDone | writePlan | readPlan | verify | join | leaveFrameEnd | leaveSegmentEnd
    | leaveImmediate | restart | clearFault | stage | unstage | readySwitch | readyKeep | unready | readStatus
    | readLog | readRoster | readGrants | unassignedCommand =>
    exact exec_command_keepsQueue rfl s
  case transactionCutShort cut => exact .next (transactionCutShortEffect_queue cut s)
  case powerOnReset | rstnLow => exact .next s.hardReset_queue
  case rstnRelease => exact .next rfl
  case frameLevelChange high => exact .next (frameLevelChangeEffect_queue high s)
  case timebaseLoss => exact .next (timebaseLossEffect_queue s)
  case tclkReturn => exact .next (tclkReturnEffect_queue s)
  case settleCountComplete => exact .event settleCountCompleteEffect_queue
  case verifyWalkConclusion => exact .event verifyWalkConclusionEffect_queue
  case frameMark => exact .event frameMarkEffect_queue
  case participantPull => exact .event participantPullEffect_queue
  case minFrameTimeElapsed => exact .event minFrameTimeElapsedEffect_queue
  case holdLimitExpiry => exact .event holdLimitExpiryEffect_queue
  case stallTimerExpiry => exact .event stallTimerExpiryEffect_queue
  case listenTimerExpiry => exact .event listenTimerExpiryEffect_queue
  case foundingPulseEnd => exact .event foundingPulseEndEffect_queue
  case searchSpanEnd slot low => exact .event (searchSpanEndEffect_queue slot low)
  case noteCompletion slot r => exact .event (noteCompletionEffect_queue slot r)
  case ownTransmissionStart => exact .event ownTransmissionStartEffect_queue
  case ownNoteCompletion levels => exact .event (ownNoteCompletionEffect_queue levels)
  case partingNoteSend => exact .event partingNoteSendEffect_queue
  case windowEnd => exact .event windowEndEffect_queue
  case hcodeWordSent => exact .event hcodeWordSentEffect_queue
  case exposureStart hrdy => exact .event (exposureStartEffect_queue hrdy)
  case exposureEnd => exact .event exposureEndEffect_queue
  case exposuresEnded => exact .event exposuresEndedEffect_queue
  case strobeDelayEnd channel => exact .event (strobeDelayEndEffect_queue channel)
  case strobeOnEnd channel => exact .event (strobeOnEndEffect_queue channel)
  case strobeOffEnd channel => exact .event (strobeOffEndEffect_queue channel)

/-- Settles O3: a step on an empty queue is a tick, and any other runs the command at the front. -/
theorem everyCommandAnswersANextState : Obligations.EveryCommandAnswersANextState := by
  refine ⟨exec_keepsQueue, fun s => ?_⟩
  cases queue : s.pending with
  | nil => exact ⟨tick s, step_empty queue⟩
  | cons c rest =>
    obtain ⟨t, run, -⟩ := exec_keepsQueue c { s with pending := rest }
    exact ⟨t, (step_front c rest s queue).trans run⟩

end Sys2Proof.Machine
end
